-- ==== Sys2Proof/Word.lean ====
section
/-! DEFINITION. The one word type of the FX-720's links and pattern memory. -/

namespace Sys2Proof

/-- A byte on a link or in pattern memory (R199, R145). -/
abbrev Byte := BitVec 8

end Sys2Proof
end

