-- ==== Sys2Proof/Syntax.lean ====
section
/-! DEFINITION. The commands and events of the FX-720: one constructor for each row of spec/opcode_table.json. -/

namespace Sys2Proof

/-- The two serial target links (spec/10). -/
inductive Link where
  | loom
  | design
  deriving DecidableEq, Repr

/-- The direction of a shaft count (R1). -/
inductive Direction where
  | forward
  | backward
  deriving DecidableEq, Repr

/-- The two section-release inputs (R120). -/
inductive ReleaseInput where
  | ra
  | rb
  deriving DecidableEq, Repr

/-- One constructor for each row of the opcode table. A command of a link carries the link it came on and its
parameter bytes in the order received (R182, R199); an event carries what its rule reads (log 5, log 8, log 20). -/
inductive Instr where
  -- shaft and drive events
  | encoderCount (dir : Direction)
  | illegalStep
  | index
  | stillTimerExpiry
  | standstillHold
  | standstillRelease
  | releaseInputChange (input : ReleaseInput) (asserted : Bool)
  -- completions
  | forwardFrameComplete
  | reformCompletion
  | frameReadBurstDone
  | loadQueueBurstDone
  | readbackBurstDone
  -- transactions that reach no block
  | unknownCommand (link : Link) (code : Byte) (params : List Byte)
  | overLongLength (link : Link) (code : Byte) (length : BitVec 16)
  | selectReleasedEarly (link : Link)
  -- commands of both links
  | status (link : Link) (params : List Byte)
  | readEvents (link : Link) (params : List Byte)
  | clearEvents (link : Link) (params : List Byte)
  | setEnables (link : Link) (params : List Byte)
  | note (link : Link) (params : List Byte)
  | readNote (link : Link) (params : List Byte)
  | readHistory (link : Link) (params : List Byte)
  | readFault (link : Link) (params : List Byte)
  | claimHarness (link : Link) (params : List Byte)
  | writeChain (link : Link) (params : List Byte)
  | writeSection (link : Link) (params : List Byte)
  | writeSelvage (link : Link) (params : List Byte)
  | commitHarness (link : Link) (params : List Byte)
  | discardHarness (link : Link) (params : List Byte)
  | readHarness (link : Link) (params : List Byte)
  | readArticle (link : Link) (params : List Byte)
  -- commands of the loom link
  | clearFault (link : Link) (params : List Byte)
  | stepBack (link : Link) (params : List Byte)
  | stepForward (link : Link) (params : List Byte)
  | setPosition (link : Link) (params : List Byte)
  | setPickCount (link : Link) (params : List Byte)
  | setPieceTarget (link : Link) (params : List Byte)
  | swapNow (link : Link) (params : List Byte)
  | unload (link : Link) (params : List Byte)
  | resync (link : Link) (params : List Byte)
  | feederOut (link : Link) (params : List Byte)
  | feederIn (link : Link) (params : List Byte)
  | levelOn (link : Link) (params : List Byte)
  | levelOff (link : Link) (params : List Byte)
  | setTiming (link : Link) (params : List Byte)
  | setDrive (link : Link) (params : List Byte)
  | setFloatGuard (link : Link) (params : List Byte)
  | setMargin (link : Link) (params : List Byte)
  | lockKeep (link : Link) (params : List Byte)
  | unlock (link : Link) (params : List Byte)
  | lockFixed (link : Link) (params : List Byte)
  | breakClaim (link : Link) (params : List Byte)
  | readFrame (link : Link) (params : List Byte)
  -- commands of the design link
  | openArticle (link : Link) (params : List Byte)
  | reopen (link : Link) (params : List Byte)
  | defineScheme (link : Link) (params : List Byte)
  | defineWeave (link : Link) (params : List Byte)
  | defineFeeders (link : Link) (params : List Byte)
  | writeLine (link : Link) (params : List Byte)
  | closeArticle (link : Link) (params : List Byte)
  | arm (link : Link) (params : List Byte)
  | disarm (link : Link) (params : List Byte)
  | discardBank (link : Link) (params : List Byte)
  | readLine (link : Link) (params : List Byte)
  | fetchLine (link : Link) (params : List Byte)
  -- resets and the end of a transaction
  | resetPin (ra rb : Bool)
  | powerOnReset (ra rb : Bool)
  | selectReleased (link : Link)
  | resetEnd (lineA lineB loomSelect designSelect : Bool)
  deriving DecidableEq, Repr

end Sys2Proof
end

