-- ==== Sys2Proof/WellFormed.lean ====
section
/-! DEFINITION. Which terms of Instr stand for an event of the part. -/

namespace Sys2Proof

/-- The longest parameter length a transaction can declare and still be parsed (R186, R200). -/
def maxParams : Nat := 2064

/-- The command codes of the table in R200: 01h–10h on both links, 20h–35h on the loom link, 40h–4Bh on the
design link. -/
def namesCommand (c : Byte) : Bool :=
  let n := c.toNat
  (decide (0x01 ≤ n) && decide (n ≤ 0x10)) || (decide (0x20 ≤ n) && decide (n ≤ 0x35)) ||
    (decide (0x40 ≤ n) && decide (n ≤ 0x4B))

/-- The parameter bytes a term carries, for the terms that carry some. -/
def Instr.params : Instr → List Byte
  | .encoderCount _ | .illegalStep | .index | .stillTimerExpiry | .standstillHold | .standstillRelease => []
  | .releaseInputChange _ _ | .forwardFrameComplete | .reformCompletion | .frameReadBurstDone => []
  | .loadQueueBurstDone | .readbackBurstDone | .overLongLength _ _ _ | .selectReleasedEarly _ => []
  | .resetPin _ _ | .powerOnReset _ _ | .selectReleased _ | .resetEnd _ _ _ _ => []
  | .unknownCommand _ _ p | .status _ p | .readEvents _ p | .clearEvents _ p | .setEnables _ p | .note _ p => p
  | .readNote _ p | .readHistory _ p | .readFault _ p | .claimHarness _ p | .writeChain _ p => p
  | .writeSection _ p | .writeSelvage _ p | .commitHarness _ p | .discardHarness _ p | .readHarness _ p => p
  | .readArticle _ p | .clearFault _ p | .stepBack _ p | .stepForward _ p | .setPosition _ p => p
  | .setPickCount _ p | .setPieceTarget _ p | .swapNow _ p | .unload _ p | .resync _ p | .feederOut _ p => p
  | .feederIn _ p | .levelOn _ p | .levelOff _ p | .setTiming _ p | .setDrive _ p | .setFloatGuard _ p => p
  | .setMargin _ p | .lockKeep _ p | .unlock _ p | .lockFixed _ p | .breakClaim _ p | .readFrame _ p => p
  | .openArticle _ p | .reopen _ p | .defineScheme _ p | .defineWeave _ p | .defineFeeders _ p => p
  | .writeLine _ p | .closeArticle _ p | .arm _ p | .disarm _ p | .discardBank _ p | .readLine _ p => p
  | .fetchLine _ p => p

/-- A term stands for an event of the part: its parameters fit a transaction (R186), an UNKNOWN COMMAND carries a
code that names no command (R185), and an over-long length is above 2,064 (R186). -/
def Instr.wellFormed (i : Instr) : Bool :=
  decide (i.params.length ≤ maxParams) &&
    match i with
    | .unknownCommand _ c _ => !namesCommand c
    | .overLongLength _ _ n => decide (maxParams < n.toNat)
    | _ => true

end Sys2Proof
end

