-- ==== Sys2Proof/Decode.lean ====
section
/-! DEFINITION. From bits to commands. No row of spec/opcode_table.json gives bits, so the table's decoder reads no
word. What the manual does give is the transaction on a link (R182, R200), and it is read here from its bytes. -/

namespace Sys2Proof

/-- The command a word spells by the table's bits. The table gives no row any bits, so no word spells one (log 24). -/
def decodeTableWord (_nbits _w : Nat) : Option Instr := none

/-- The row of a complete transaction, by its command code (R185, the command-code table of R200). -/
def commandRow (k : Link) (code : Byte) (p : List Byte) : Instr :=
  match code.toNat with
  | 0x01 => .status k p
  | 0x02 => .readEvents k p
  | 0x03 => .clearEvents k p
  | 0x04 => .setEnables k p
  | 0x05 => .note k p
  | 0x06 => .readNote k p
  | 0x07 => .readHistory k p
  | 0x08 => .readFault k p
  | 0x09 => .claimHarness k p
  | 0x0A => .writeChain k p
  | 0x0B => .writeSection k p
  | 0x0C => .writeSelvage k p
  | 0x0D => .commitHarness k p
  | 0x0E => .discardHarness k p
  | 0x0F => .readHarness k p
  | 0x10 => .readArticle k p
  | 0x20 => .clearFault k p
  | 0x21 => .stepBack k p
  | 0x22 => .stepForward k p
  | 0x23 => .setPosition k p
  | 0x24 => .setPickCount k p
  | 0x25 => .setPieceTarget k p
  | 0x26 => .swapNow k p
  | 0x27 => .unload k p
  | 0x28 => .resync k p
  | 0x29 => .feederOut k p
  | 0x2A => .feederIn k p
  | 0x2B => .levelOn k p
  | 0x2C => .levelOff k p
  | 0x2D => .setTiming k p
  | 0x2E => .setDrive k p
  | 0x2F => .setFloatGuard k p
  | 0x30 => .setMargin k p
  | 0x31 => .lockKeep k p
  | 0x32 => .unlock k p
  | 0x33 => .lockFixed k p
  | 0x34 => .breakClaim k p
  | 0x35 => .readFrame k p
  | 0x40 => .openArticle k p
  | 0x41 => .reopen k p
  | 0x42 => .defineScheme k p
  | 0x43 => .defineWeave k p
  | 0x44 => .defineFeeders k p
  | 0x45 => .writeLine k p
  | 0x46 => .closeArticle k p
  | 0x47 => .arm k p
  | 0x48 => .disarm k p
  | 0x49 => .discardBank k p
  | 0x4A => .readLine k p
  | 0x4B => .fetchLine k p
  | _ => .unknownCommand k code p

/-- The row that the bytes a master sends from the assertion of select to its release present to the part: a
complete command (R182), a length above 2,064 (R186), or a release before the command is complete (R187). Bytes
after the last parameter are turnaround and reply clocks and are ignored (R182, R183). -/
def transactionRow (k : Link) : List Byte → Instr
  | code :: hi :: lo :: rest =>
    let n := hi.toNat * 256 + lo.toNat
    if maxParams < n then .overLongLength k code (hi ++ lo)
    else if rest.length < n then .selectReleasedEarly k
    else commandRow k code (rest.take n)
  | _ => .selectReleasedEarly k

/-- The row that the bytes received in a command phase present, once the last of the declared parameter bytes or an
over-long length has been received; `none` while the command is not complete (R182, R186). -/
def presentedRow (k : Link) (bytes : List Byte) : Option Instr :=
  match bytes with
  | _ :: hi :: lo :: rest =>
    let n := hi.toNat * 256 + lo.toNat
    if maxParams < n ∨ n ≤ rest.length then some (transactionRow k bytes) else none
  | _ => none

/-- The command code and link of each row that a complete transaction presents (R200). -/
def Instr.codeOf : Instr → Option (Link × Byte)
  | .unknownCommand k c _ => some (k, c)
  | .status k _ => some (k, 0x01)
  | .readEvents k _ => some (k, 0x02)
  | .clearEvents k _ => some (k, 0x03)
  | .setEnables k _ => some (k, 0x04)
  | .note k _ => some (k, 0x05)
  | .readNote k _ => some (k, 0x06)
  | .readHistory k _ => some (k, 0x07)
  | .readFault k _ => some (k, 0x08)
  | .claimHarness k _ => some (k, 0x09)
  | .writeChain k _ => some (k, 0x0A)
  | .writeSection k _ => some (k, 0x0B)
  | .writeSelvage k _ => some (k, 0x0C)
  | .commitHarness k _ => some (k, 0x0D)
  | .discardHarness k _ => some (k, 0x0E)
  | .readHarness k _ => some (k, 0x0F)
  | .readArticle k _ => some (k, 0x10)
  | .clearFault k _ => some (k, 0x20)
  | .stepBack k _ => some (k, 0x21)
  | .stepForward k _ => some (k, 0x22)
  | .setPosition k _ => some (k, 0x23)
  | .setPickCount k _ => some (k, 0x24)
  | .setPieceTarget k _ => some (k, 0x25)
  | .swapNow k _ => some (k, 0x26)
  | .unload k _ => some (k, 0x27)
  | .resync k _ => some (k, 0x28)
  | .feederOut k _ => some (k, 0x29)
  | .feederIn k _ => some (k, 0x2A)
  | .levelOn k _ => some (k, 0x2B)
  | .levelOff k _ => some (k, 0x2C)
  | .setTiming k _ => some (k, 0x2D)
  | .setDrive k _ => some (k, 0x2E)
  | .setFloatGuard k _ => some (k, 0x2F)
  | .setMargin k _ => some (k, 0x30)
  | .lockKeep k _ => some (k, 0x31)
  | .unlock k _ => some (k, 0x32)
  | .lockFixed k _ => some (k, 0x33)
  | .breakClaim k _ => some (k, 0x34)
  | .readFrame k _ => some (k, 0x35)
  | .openArticle k _ => some (k, 0x40)
  | .reopen k _ => some (k, 0x41)
  | .defineScheme k _ => some (k, 0x42)
  | .defineWeave k _ => some (k, 0x43)
  | .defineFeeders k _ => some (k, 0x44)
  | .writeLine k _ => some (k, 0x45)
  | .closeArticle k _ => some (k, 0x46)
  | .arm k _ => some (k, 0x47)
  | .disarm k _ => some (k, 0x48)
  | .discardBank k _ => some (k, 0x49)
  | .readLine k _ => some (k, 0x4A)
  | .fetchLine k _ => some (k, 0x4B)
  | .encoderCount _ | .illegalStep | .index | .stillTimerExpiry | .standstillHold | .standstillRelease => none
  | .releaseInputChange _ _ | .forwardFrameComplete | .reformCompletion | .frameReadBurstDone => none
  | .loadQueueBurstDone | .readbackBurstDone | .overLongLength _ _ _ | .selectReleasedEarly _ => none
  | .resetPin _ _ | .powerOnReset _ _ | .selectReleased _ | .resetEnd _ _ _ _ => none

/-- The bytes a master sends for a row, with the link it sends them on: command code, parameter length most
significant byte first, parameters (R199, R200). -/
def encodeTransaction (i : Instr) : Option (Link × List Byte) :=
  match i with
  | .overLongLength k c n => some (k, [c, n.extractLsb' 8 8, n.extractLsb' 0 8])
  | .selectReleasedEarly k => some (k, [])
  | _ =>
    match i.codeOf with
    | some (k, c) =>
      some (k, c :: BitVec.ofNat 8 (i.params.length / 256) :: BitVec.ofNat 8 i.params.length :: i.params)
    | none => none

end Sys2Proof
end

