-- ==== Sys2Proof/Machine/State.lean ====
section
/-! DEFINITION. The state of the FX-720 as plain data, block by block (spec/00_scope.md, "Functional outline"), and
the machine right after reset. -/

namespace Sys2Proof.Machine

/-! ## Shaft tracker (spec/01) -/

/-- Reference state (R4, R5, R12). -/
inductive Reference where
  | unreferenced
  | referenced
  | lost
  deriving DecidableEq, Repr

/-- Loss cause (R12). -/
inductive LossCause where
  | none
  | illegalStep
  | indexMismatch
  deriving DecidableEq, Repr

/-- Motion state (R3). -/
inductive Motion where
  | still
  | forward
  | reverse
  deriving DecidableEq, Repr

/-- The two encoder lines as the decoder last took them (R21). -/
structure EncoderLines where
  a : Bool
  b : Bool
  deriving DecidableEq, Repr

/-- The eight timing settings of SET TIMING, in its order (R14). The still time is in milliseconds. -/
structure Timing where
  latchAngle : Nat
  backOff : Nat
  frameStart : Nat
  weftSelect : Nat
  gateOn : Nat
  gateOff : Nat
  tolerance : Nat
  stillTime : Nat
  deriving DecidableEq, Repr

/-- The shaft tracker's state (the table that opens spec/01, R21). -/
structure Shaft where
  /-- The angle, 0–1023 (R1). -/
  angle : Nat
  lines : EncoderLines
  reference : Reference
  cause : LossCause
  motion : Motion
  /-- Microseconds until the still timer expires, `none` while it is stopped (R3). -/
  stillTimer : Option Nat
  /-- The cycle offset d (R8). -/
  offset : Int
  timing : Timing
  speed : Nat
  /-- The interval counter in microseconds, and whether it counts (R17). -/
  interval : Nat
  intervalRunning : Bool
  /-- The measurement flag (R17). -/
  measuring : Bool
  slack : Nat
  slackCounter : Nat
  margin : Nat
  deriving DecidableEq, Repr

/-! ## Pick engine (spec/02, spec/09) -/

/-- The two banks. -/
inductive BankId where
  | bankA
  | bankB
  deriving DecidableEq, Repr

/-- A pick: weaving bank, line, step and repeat count (R23). -/
structure Position where
  bank : BankId
  line : Nat
  step : Nat
  rep : Nat
  deriving DecidableEq, Repr

/-- Engine state (R22). -/
inductive Engine where
  | noArticle
  | weaving
  | unsynchronised
  deriving DecidableEq, Repr

/-- Cause of a re-form (R102, R106). -/
inductive Cause where
  | reverse
  | undo
  | step
  | set
  | swap
  | reform
  deriving DecidableEq, Repr

/-- Kind of a pick-history record (R49, R202): a latched forward frame, a LATE latch, or a re-form by its cause (R30). -/
inductive RecordKind where
  | forward
  | stale
  | reform (cause : Cause)
  deriving DecidableEq, Repr

/-- A pick-history record (R49). -/
structure HistoryRecord where
  kind : RecordKind
  counter : Nat
  position : Position
  system : Fin 8
  feeder : Option (Fin 8)
  substituted : Bool
  bindCount : Nat
  swapFlag : Bool
  deriving DecidableEq, Repr

/-- Fault kinds (R170). -/
inductive FaultKind where
  | lateFrame
  | weftUnavailable
  | shaftLost
  | floatLimit
  deriving DecidableEq, Repr

/-- A set of fault kinds (R172). -/
structure KindSet where
  lateFrame : Bool
  weftUnavailable : Bool
  shaftLost : Bool
  floatLimit : Bool
  deriving DecidableEq, Repr

/-- The fault record while it holds a fault (R171, R172). -/
structure FaultRecord where
  kind : FaultKind
  cause : LossCause
  counter : Nat
  /-- Absent for a SHAFT LOST that arises in NO ARTICLE (R170). -/
  position : Option Position
  angle : Nat
  laterCount : Nat
  laterKinds : KindSet
  deriving DecidableEq, Repr

/-- The pick engine's state. -/
structure PickEngine where
  engine : Engine
  position : Option Position
  reforming : Bool
  counter : Nat
  target : Nat
  exchangeNote : Bool
  /-- Newest first, at most sixteen (R47). -/
  history : List HistoryRecord
  fault : Option FaultRecord
  /-- The stop-request output pin, true while asserted (R173). -/
  stopRequest : Bool
  deriving DecidableEq, Repr

/-! ## Article content (spec/08) -/

/-- A grid of lift bits, row 0 first and column 0 first within a row (R64, R129). -/
structure Grid where
  width : Nat
  height : Nat
  rows : List (List Bool)
  deriving DecidableEq, Repr

/-- One step of a pick scheme: weft system and row shift (R63). -/
structure SchemeStep where
  system : Fin 8
  shift : Nat
  deriving DecidableEq, Repr

/-- Mode of a feeder-table entry (R87). -/
inductive FeederMode where
  | single
  | alternate
  deriving DecidableEq, Repr

/-- A defined feeder-table entry (R87). Feeder n is the number n − 1 of `Fin 8`; no alternate is `none`. -/
structure FeederEntry where
  primary : Fin 8
  alternate : Option (Fin 8)
  mode : FeederMode
  deriving DecidableEq, Repr

/-- UP or DOWN (R65). -/
inductive Face where
  | up
  | down
  deriving DecidableEq, Repr

/-- A retained position: line, step, repeat count (R39). -/
structure Retained where
  line : Nat
  step : Nat
  rep : Nat
  deriving DecidableEq, Repr

/-- An article record (R146). `lines` is the line table and the written-line map in one: entry L is the scheme
number of line L, or `none` while the line is not written; R161 sets both together and nothing else does. -/
structure Article where
  width : Nat
  height : Nat
  face : Face
  schemes : Vector (Option (List SchemeStep)) 8
  /-- Weave (ws, e) is `weaves[ws][e]`. -/
  weaves : Vector (Vector (Option Grid) 4) 8
  feeders : Vector (Option FeederEntry) 8
  lines : List (Option (Fin 8))
  retained : Option Retained
  deriving DecidableEq, Repr

/-- Bank state (spec/08, "Bank states"; `opened` is OPEN). -/
inductive BankState where
  | empty
  | opened
  | closing
  | ready
  | armed
  | weaving
  | retired
  deriving DecidableEq, Repr

/-- Close result with its detail (R150). -/
inductive CloseResult where
  | none
  | ok
  | linesMissing (line : Nat)
  | schemeUndefined (scheme : Fin 8)
  | weaveUndefined (system : Fin 8) (effect : Fin 4)
  | feederUndefined (system : Fin 8)
  deriving DecidableEq, Repr

/-- One bank (R146). -/
structure Bank where
  state : BankState
  record : Option Article
  closeResult : CloseResult
  deriving DecidableEq, Repr

/-- An entry of the load queue (R159), with the number of its bursts already written (R161). -/
structure QueueEntry where
  bank : BankId
  line : Nat
  scheme : Fin 8
  cells : List Byte
  written : Nat
  deriving DecidableEq, Repr

/-- What the readback buffer records at READ LINE (R164). -/
structure ReadJob where
  bank : BankId
  line : Nat
  scheme : Fin 8
  width : Nat
  deriving DecidableEq, Repr

/-- The readback buffer (R164): FILLING with the bytes read so far, or FULL with the line's cell bytes. -/
inductive Readback where
  | empty
  | filling (job : ReadJob) (data : List Byte)
  | full (job : ReadJob) (cells : List Byte)
  deriving DecidableEq, Repr

/-- The three requesters of the pattern-memory port (R163). -/
inductive Requester where
  | frame
  | queue
  | readback
  deriving DecidableEq, Repr

/-- A burst in progress: its requester, the address of its first byte, the bytes of a write, and whether the work it
belongs to has been abandoned (R163). -/
structure Burst where
  requester : Requester
  address : Nat
  data : List Byte
  dropped : Bool
  deriving DecidableEq, Repr

/-- The pattern store's state (the table that opens spec/08). -/
structure PatternStore where
  bankA : Bank
  bankB : Bank
  /-- Oldest first, at most four (R160). -/
  queue : List QueueEntry
  readback : Readback
  /-- The arbiter: the burst in progress, or `none` while the port is idle (R163). -/
  port : Option Burst
  /-- The bytes of pattern memory that have been written, by address, strictly rising (R145, log 11). -/
  memory : List Host.Cell
  deriving DecidableEq, Repr

/-! ## Frame builder (spec/03 to spec/06) -/

/-- FORWARD, or RE-FORM with its cause (R102). -/
inductive FrameKind where
  | forward
  | reform (cause : Cause)
  deriving DecidableEq, Repr

/-- A frame's descriptor (R102). -/
structure Descriptor where
  kind : FrameKind
  level : Bool
  swap : Bool
  position : Position
  pickValue : Nat
  system : Fin 8
  entry : Option FeederEntry
  resolved : Option (Fin 8)
  substituted : Bool
  bindCount : Nat
  violation : Bool
  deriving DecidableEq, Repr

/-- Float-guard mode (R72). -/
inductive GuardMode where
  | off
  | bind
  | stop
  deriving DecidableEq, Repr

/-- The float guard's three settings (R72). -/
structure GuardSettings where
  mode : GuardMode
  up : Nat
  down : Nat
  deriving DecidableEq, Repr

/-- Committed sense (R74). -/
inductive Sense where
  | none
  | up
  | down
  deriving DecidableEq, Repr

/-- Committed sense and run of one hook (R74). -/
structure FloatRun where
  sense : Sense
  run : Nat
  deriving DecidableEq, Repr

/-- What the float test of a frame reads: the settings and the committed state of its assembly start (R75, R82). -/
structure GuardView where
  settings : GuardSettings
  committed : List FloatRun
  deriving DecidableEq, Repr

/-- How far an assembling frame has come (R109–R111): the design line is being read, with the bytes read so far, or
its lifts are computed and being shifted. -/
inductive Stage where
  | reading (data : List Byte)
  | shifting
  deriving DecidableEq, Repr

/-- The pending-frame slot (R102). -/
inductive Slot where
  | empty
  | assembling (d : Descriptor) (view : GuardView) (stage : Stage)
  | ready (d : Descriptor)
  deriving DecidableEq, Repr

/-- The pick feeder (R95). -/
inductive PickFeeder where
  | noFrame
  | frame (feeder : Option (Fin 8))
  deriving DecidableEq, Repr

/-- Alternation state of a weft system (R92). -/
inductive Alternation where
  | primaryNext
  | alternateNext
  deriving DecidableEq, Repr

/-- The feeder output's record (R94). -/
structure OutputRecord where
  system : Fin 8
  entry : Option FeederEntry
  resolved : Option (Fin 8)
  deriving DecidableEq, Repr

/-- A selection: for each chain a lift for each of its positions, or no selection (R103, R117). -/
abbrev Selection := Vector (Option (List Bool)) 8

/-- The frame builder's state. -/
structure FrameBuilder where
  slot : Slot
  /-- The waiting re-form (R107). -/
  owed : Option Cause
  latchedDesc : Option Descriptor
  pickFeeder : PickFeeder
  staged : Selection
  latched : Selection
  level : Bool
  guard : GuardSettings
  /-- Entry h is hook h; a hook past the end is NONE and 0 (R74). -/
  committed : List FloatRun
  available : Vector Bool 8
  alternation : Vector Alternation 8
  /-- The feeder output, pins FSEL1–FSEL8 (R94). -/
  output : Option (Fin 8)
  outputRecord : Option OutputRecord
  /-- The weft gate pin (R99). -/
  gate : Bool
  deriving DecidableEq, Repr

/-! ## Harness unit (spec/06, spec/07) -/

/-- One entry of a chain layout (R127). -/
structure ChainEntry where
  length : Nat
  enabled : Bool
  ignoreRA : Bool
  ignoreRB : Bool
  deriving DecidableEq, Repr

/-- STRAIGHT or POINT (R56). -/
inductive SectionMode where
  | straight
  | point
  deriving DecidableEq, Repr

/-- The kind of a section with the fields it needs (R56). -/
inductive SectionKind where
  | figure (c0 w : Nat) (mode : SectionMode)
  | selvage (weave : Fin 4)
  | dead
  deriving DecidableEq, Repr

/-- A used section slot (R55, R56). -/
structure Section where
  first : Nat
  count : Nat
  kind : SectionKind
  deriving DecidableEq, Repr

/-- A harness table (R127–R129). -/
structure HarnessTable where
  chains : Vector ChainEntry 8
  sections : Vector (Option Section) 16
  selvages : Vector (Option Grid) 4
  deriving DecidableEq, Repr

/-- The harness claim: its owner and the shadow table, which exists exactly while the claim is held (R130). -/
structure Claim where
  owner : Link
  shadow : HarnessTable
  deriving DecidableEq, Repr

/-- HOLD or RELEASE (R124). -/
inductive LossPolicy where
  | hold
  | release
  deriving DecidableEq, Repr

/-- The drive settings (R121). T1 is in tenths of a second and T2 in seconds. -/
structure DriveSettings where
  slots : Vector (BitVec 4) 4
  runSlots : Vector (Fin 4) 8
  standstillSlot : Fin 4
  t1 : Nat
  t2 : Nat
  policy : LossPolicy
  deriving DecidableEq, Repr

/-- Standstill stage (R122). -/
inductive StandstillStage where
  | run
  | hold
  | release
  deriving DecidableEq, Repr

/-- The standstill timer: running toward an expiry with the microseconds left (R122), or stopped. R123 starts a timer
that T1 = 0 had stopped and lets one that T2 = 0 stopped in HOLD stand, so the two are told apart. -/
inductive StandstillTimer where
  | stopped
  | stoppedByT2
  | toFirst (left : Nat)
  | toSecond (left : Nat)
  deriving DecidableEq, Repr

/-- The harness unit's state. -/
structure HarnessUnit where
  live : HarnessTable
  claim : Option Claim
  keep : Bool
  fixed : Bool
  ra : Bool
  rb : Bool
  drive : DriveSettings
  stage : StandstillStage
  timer : StandstillTimer
  /-- The driver-enable pin of each chain (R119). -/
  driversOn : Vector Bool 8
  /-- The drive-level pins of each chain (R121). -/
  levels : Vector (BitVec 4) 8
  deriving DecidableEq, Repr

/-! ## Link interfaces (spec/10) -/

/-- Transaction phase (the table that opens spec/10, R182, R183, R186). -/
inductive Phase where
  | idle
  | command
  | turnaround
  | reply
  | discarding
  deriving DecidableEq, Repr

/-- Refusal reasons, in the order of their codes 01h–10h (R184, R200). -/
inductive Reason where
  | unknownCommand
  | wrongLink
  | length
  | range
  | moving
  | noArticle
  | bankState
  | bankInUse
  | tooLate
  | notClaimed
  | claimed
  | locked
  | invalid
  | width
  | notLoaded
  | unsynchronised
  deriving DecidableEq, Repr

/-- Cause of an INVALID refusal (R135). -/
inductive InvalidCause where
  | beyondHooks
  | overlap
  | selvageUndefined
  | tooWide
  deriving DecidableEq, Repr

/-- Detail of a refusal (R188). -/
inductive Detail where
  | none
  | number (n : Nat)
  | slotCause (slot : Fin 16) (cause : InvalidCause)
  deriving DecidableEq, Repr

/-- The refusal record while it holds a refusal (R188). -/
structure RefusalEntry where
  code : Byte
  reason : Reason
  detail : Detail
  deriving DecidableEq, Repr

/-- One link interface (the table that opens spec/10). -/
structure LinkState where
  phase : Phase
  /-- The bytes received in the command phase so far, command code first (R182). -/
  received : List Byte
  /-- The byte the transaction has reached after its command phase: the bytes clocked since (R182, R183, R186). -/
  place : Nat
  /-- Event n at bit n (R191, R203). -/
  flags : BitVec 16
  enables : BitVec 16
  /-- The attention output pin, true while asserted (R193). -/
  attention : Bool
  noteSlot : Option Byte
  refusal : Option RefusalEntry
  /-- The reply frame of R200 formed when the command was taken, status byte first, until select is released (R183). -/
  reply : Option (List Byte)
  deriving DecidableEq, Repr

/-- What the master of a link does with select and clock: one byte for each eight clocks (R182, R187; log 9). -/
inductive Wire where
  | select (k : Link)
  | clock (k : Link) (b : Byte)
  | release (k : Link)
  deriving DecidableEq, Repr

/-! ## The whole part -/

/-- The state of the FX-720. -/
structure State where
  shaft : Shaft
  pick : PickEngine
  frame : FrameBuilder
  harness : HarnessUnit
  store : PatternStore
  loom : LinkState
  design : LinkState
  /-- A reset is still applied (R198, R205). -/
  inReset : Bool
  /-- The model's own: how many STATUS replies have drawn free values (log 10). -/
  freeDraws : Nat
  /-- The model's own: the commands and events that wait, first in, first out (log 1). -/
  pending : List Instr
  /-- The model's own: what waits on the select and clock lines of the links, first in, first out (log 9). -/
  wires : List Wire
  deriving DecidableEq, Repr

/-- Why a step stops the model. -/
inductive Fault where
  /-- Raised by FRAME_READ_BURST_DONE and READBACK_BURST_DONE when the burst covers a byte of pattern memory that no
  burst has written, whose content the manual does not give (R145 lets no requester read one). Safe. Log 11. -/
  | unwrittenPatternMemory
  deriving DecidableEq, Repr

/-- Why a step has no outcome. -/
inductive Refusal where
  /-- Raised by `exec` alone, for a row that has no meaning yet. Safe. -/
  | notModelled (mnemonic : String)
  /-- Raised by UNKNOWN_COMMAND for a code that names a command: such a transaction is that command's row. Safe. Log 21. -/
  | codeNamesCommand
  /-- Raised by OVER_LONG_LENGTH for a declared length of at most 2,064: such a transaction is not over-long. Safe.
  Log 21. -/
  | lengthNotOverLong
  deriving DecidableEq, Repr

/-! ## Reset -/

/-- The default timing settings (R21). -/
def Timing.default : Timing :=
  { latchAngle := 0, backOff := 8, frameStart := 64, weftSelect := 160, gateOn := 200, gateOff := 600,
    tolerance := 2, stillTime := 200 }

/-- The tracker after both resets (R21). -/
def Shaft.reset : Shaft :=
  { angle := 0, lines := { a := false, b := false }, reference := .unreferenced, cause := .none, motion := .still,
    stillTimer := none, offset := 0, timing := .default, speed := 0, interval := 0, intervalRunning := false,
    measuring := false, slack := 0, slackCounter := 0, margin := 0 }

/-- The pick engine after both resets (R51, R180). The re-forming flag is part of the position record (R23), which is
absent here; that it is clear then is the model's choice (DESIGN CHOICE, log 35). -/
def PickEngine.reset : PickEngine :=
  { engine := .noArticle, position := none, reforming := false, counter := 0, target := 0, exchangeNote := false,
    history := [], fault := none, stopRequest := false }

/-- No chain holds a selection (R103). -/
def Selection.empty : Selection := Vector.replicate 8 none

/-- The frame builder after both resets (R68, R72, R85, R92, R98, R99, R125). -/
def FrameBuilder.reset : FrameBuilder :=
  { slot := .empty, owed := none, latchedDesc := none, pickFeeder := .noFrame, staged := .empty, latched := .empty,
    level := false, guard := { mode := .off, up := 0, down := 0 }, committed := [],
    available := Vector.replicate 8 true, alternation := Vector.replicate 8 .primaryNext, output := none,
    outputRecord := none, gate := false }

/-- The empty harness table (R143). -/
def HarnessTable.empty : HarnessTable :=
  { chains := Vector.replicate 8 { length := 0, enabled := false, ignoreRA := false, ignoreRB := false },
    sections := Vector.replicate 16 none, selvages := Vector.replicate 4 none }

/-- The default drive settings (R121). -/
def DriveSettings.default : DriveSettings :=
  { slots := #v[12#4, 8#4, 4#4, 15#4], runSlots := Vector.replicate 8 0, standstillSlot := 2, t1 := 20, t2 := 30,
    policy := .hold }

/-- The harness unit after power-on reset (R125, R143). -/
def HarnessUnit.reset : HarnessUnit :=
  { live := .empty, claim := none, keep := false, fixed := false, ra := false, rb := false, drive := .default,
    stage := .run, timer := .stopped, driversOn := Vector.replicate 8 false, levels := Vector.replicate 8 12#4 }

/-- A bank after both resets (R169). -/
def Bank.reset : Bank := { state := .empty, record := none, closeResult := .none }

/-- The pattern store after power-on reset (R169), with pattern memory as power left it: nothing known (log 11). -/
def PatternStore.reset : PatternStore :=
  { bankA := .reset, bankB := .reset, queue := [], readback := .empty, port := none, memory := [] }

/-- A link interface after both resets (R198). -/
def LinkState.reset : LinkState :=
  { phase := .idle, received := [], place := 0, flags := 0#16, enables := 0#16, attention := false, noteSlot := none,
    refusal := none, reply := none }

/-- The machine right after power-on reset has ended, with both selects released and nothing waiting. -/
def State.reset : State :=
  { shaft := .reset, pick := .reset, frame := .reset, harness := .reset, store := .reset, loom := .reset,
    design := .reset, inReset := false, freeDraws := 0, pending := [], wires := [] }

end Sys2Proof.Machine
end

