-- ==== Sys2Proof/Machine/Flags.lean ====
section
/-! DEFINITION. Event flags and attention (R191–R193), the fault record and the stop request (R170–R173). -/

namespace Sys2Proof.Machine

/-- The events of both links (R191). -/
inductive Event where
  | fault
  | reformDone
  | wrap
  | swap
  | swapRefused
  | swapUndone
  | pieceDone
  | note
  | standstillHold
  | standstillRelease
  | releaseInputChange
  | marginLow
  | feederSubstituted
  | claimFreed
  | closeDone
  | lineReady
  | queueSpace
  | disarmed
  deriving DecidableEq, Repr

/-- The number of an event on a link, `none` where that link does not carry it (the table of R191). -/
def eventNumber : Link → Event → Option Nat
  | .loom, .fault => some 0
  | .loom, .reformDone => some 1
  | .loom, .wrap => some 2
  | .loom, .swap => some 3
  | .loom, .swapRefused => some 4
  | .loom, .swapUndone => some 5
  | .loom, .pieceDone => some 6
  | .loom, .note => some 7
  | .loom, .standstillHold => some 8
  | .loom, .standstillRelease => some 9
  | .loom, .releaseInputChange => some 10
  | .loom, .marginLow => some 11
  | .loom, .feederSubstituted => some 12
  | .loom, .claimFreed => some 13
  | .design, .fault => some 0
  | .design, .wrap => some 1
  | .design, .swap => some 2
  | .design, .swapRefused => some 3
  | .design, .swapUndone => some 4
  | .design, .closeDone => some 5
  | .design, .lineReady => some 6
  | .design, .queueSpace => some 7
  | .design, .note => some 8
  | .design, .disarmed => some 9
  | .design, .claimFreed => some 10
  | _, _ => none

/-- The flag word with one event's bit set (the two-byte order of R203). -/
def eventBit (k : Link) (e : Event) : BitVec 16 :=
  match eventNumber k e with
  | some n => 1#16 <<< n
  | none => 0#16

/-- The other link. -/
def otherLink : Link → Link
  | .loom => .design
  | .design => .loom

/-- The interface of a link. -/
def State.link (s : State) : Link → LinkState
  | .loom => s.loom
  | .design => s.design

/-- Replaces the interface of a link. -/
def State.setLink (s : State) (k : Link) (l : LinkState) : State :=
  match k with
  | .loom => { s with loom := l }
  | .design => { s with design := l }

/-- Attention is asserted while a flag is both set and enabled (R193). -/
def LinkState.wantsAttention (l : LinkState) : Bool := (l.flags &&& l.enables) != 0#16

/-- Writes flags and enables, attention following at once (R193). -/
def LinkState.setFlags (l : LinkState) (flags enables : BitVec 16) : LinkState :=
  { l with flags := flags, enables := enables, attention := (flags &&& enables) != 0#16 }

/-- Raises an event on a link (R192); an event the link does not carry raises nothing. -/
def raise (k : Link) (e : Event) (s : State) : State :=
  s.setLink k ((s.link k).setFlags ((s.link k).flags ||| eventBit k e) (s.link k).enables)

/-- Raises an event on both links (R192). -/
def raiseBoth (e : Event) (s : State) : State := raise .design e (raise .loom e s)

/-- Raises an event on a link when a condition holds. -/
def raiseIf (c : Bool) (k : Link) (e : Event) (s : State) : State := if c then raise k e s else s

/-- The stop request is asserted exactly while the record holds a fault or the engine is UNSYNCHRONISED (R173). -/
def PickEngine.wantsStop (p : PickEngine) : Bool := p.fault.isSome || p.engine == .unsynchronised

/-- The stop-request output follows its two conditions (R173). -/
def followStop (s : State) : State := { s with pick := { s.pick with stopRequest := s.pick.wantsStop } }

/-- The empty set of kinds. -/
def KindSet.empty : KindSet := { lateFrame := false, weftUnavailable := false, shaftLost := false, floatLimit := false }

/-- Adds a kind to a set (R172). -/
def KindSet.insert (k : FaultKind) (x : KindSet) : KindSet :=
  match k with
  | .lateFrame => { x with lateFrame := true }
  | .weftUnavailable => { x with weftUnavailable := true }
  | .shaftLost => { x with shaftLost := true }
  | .floatLimit => { x with floatLimit := true }

/-- A fault report that finds the record empty becomes the first fault, with the counter, position and angle as they
stand (R170, R171). -/
def enterFirstFault (kind : FaultKind) (cause : LossCause) (s : State) : State :=
  raiseBoth .fault (followStop
    { s with
      pick := { s.pick with
        fault := some
          { kind := kind, cause := cause, counter := s.pick.counter, position := s.pick.position,
            angle := s.shaft.angle, laterCount := 0, laterKinds := .empty } } })

/-- A fault report that finds the record held adds to its later faults (R172). -/
def countLaterFault (kind : FaultKind) (r : FaultRecord) (s : State) : State :=
  { s with
    pick := { s.pick with
      fault := some { r with laterCount := min (r.laterCount + 1) 255, laterKinds := r.laterKinds.insert kind } } }

/-- A fault report reaches the pick engine (R170–R172). -/
def reportFault (kind : FaultKind) (cause : LossCause) (s : State) : State :=
  match s.pick.fault with
  | none => enterFirstFault kind cause s
  | some r => countLaterFault kind r s

end Sys2Proof.Machine
end

