-- ==== Sys2Proof/Machine/Drive.lean ====
section
/-! DEFINITION. The chain drivers and drive levels (R119, R121), loss release (R124) and standstill (R122, R123). -/

namespace Sys2Proof.Machine

/-- An article weaves: the engine is WEAVING or UNSYNCHRONISED (R119). -/
def State.weaves (s : State) : Bool := s.pick.engine != .noArticle

/-- A loss release is in force (R124). -/
def State.lossRelease (s : State) : Bool :=
  s.shaft.reference == .lost && s.weaves && s.harness.drive.policy == .release

/-- A chain's drivers are to be ON (R119). -/
def State.wantsDriver (s : State) (c : Fin 8) : Bool :=
  let e := s.harness.live.chains[c]
  s.weaves && e.enabled && e.length != 0 && (!s.harness.ra || e.ignoreRA) && (!s.harness.rb || e.ignoreRB) &&
    s.harness.stage != .release && !s.lossRelease

/-- The drive level of a chain: its run slot in RUN, the standstill slot in HOLD and RELEASE (R121). -/
def HarnessUnit.wantsLevel (h : HarnessUnit) (c : Fin 8) : BitVec 4 :=
  match h.stage with
  | .run => h.drive.slots[h.drive.runSlots[c]]
  | _ => h.drive.slots[h.drive.standstillSlot]

/-- The driver-enable and drive-level pins follow their conditions at once (R119, R121). -/
def followDrivers (s : State) : State :=
  { s with
    harness := { s.harness with
      driversOn := Vector.ofFn s.wantsDriver, levels := Vector.ofFn s.harness.wantsLevel } }

/-- T1 in microseconds. -/
def DriveSettings.firstTime (d : DriveSettings) : Nat := d.t1 * 100000

/-- T2 in microseconds. -/
def DriveSettings.secondTime (d : DriveSettings) : Nat := d.t2 * 1000000

/-- The timer after a restart: toward the first expiry while an article weaves and T1 is not 0 (R122). -/
def State.restartedTimer (s : State) : StandstillTimer :=
  if s.weaves && s.harness.drive.t1 != 0 then .toFirst s.harness.drive.firstTime else .stopped

/-- A count, a latch or an install restarts the standstill timer and returns the stage to RUN (R122). -/
def restartStandstill (s : State) : State :=
  followDrivers { s with harness.stage := .run, harness.timer := s.restartedTimer }

/-- The timer as it goes toward the second expiry in HOLD: a T2 of 0 stops it (R122, R123). -/
def DriveSettings.holdTimer (d : DriveSettings) : StandstillTimer :=
  if d.t2 = 0 then .stoppedByT2 else .toSecond d.secondTime

/-- The first standstill expiry (R122): with T2 not 0 the timer goes on toward the second. -/
def firstExpiry (s : State) : State :=
  raise .loom .standstillHold (followDrivers
    { s with harness.stage := .hold, harness.timer := s.harness.drive.holdTimer })

/-- The second standstill expiry (R122). -/
def secondExpiry (s : State) : State :=
  raise .loom .standstillRelease (followDrivers { s with harness.stage := .release, harness.timer := .stopped })

/-- At UNLOAD the timer stops and the stage becomes RUN; with no article every driver goes off (R46, R122). -/
def standstillOff (s : State) : State :=
  followDrivers { s with harness.stage := .run, harness.timer := .stopped }

/-- A timer that T1 = 0 had stopped: a new T1 that is not 0 starts it toward the first expiry, where an article weaves
(R123, log 17). -/
def timerFromStop (s : State) (d : DriveSettings) : StandstillTimer :=
  if s.weaves && s.harness.drive.t1 == 0 && d.t1 != 0 then .toFirst d.firstTime else .stopped

/-- What new drive settings make of the timer (R123). In RUN a running timer restarts with the new T1, and a T1 of 0
stops it; in HOLD a running timer restarts with the new T2, and a T2 of 0 stops it, as does a T1 of 0 (log 17); in RELEASE
nothing changes. -/
def timerAfterSettings (s : State) (d : DriveSettings) : StandstillTimer :=
  match s.harness.stage, s.harness.timer with
  | .release, t => t
  | _, .stopped => timerFromStop s d
  | _, .stoppedByT2 => .stoppedByT2
  | .run, _ => if d.t1 = 0 then .stopped else .toFirst d.firstTime
  | .hold, _ => if d.t1 = 0 ∧ d.t2 ≠ 0 then .stopped else d.holdTimer

/-- SET DRIVE: all settings together, with their effect on the timer, the levels and the drivers (R121, R123, R124). -/
def applyDrive (d : DriveSettings) (s : State) : State :=
  followDrivers { s with harness.drive := d, harness.timer := timerAfterSettings s d }

/-- A release input takes a level; a change raises RELEASE INPUT CHANGE and re-evaluates the drivers (R120). -/
def setReleaseInput (i : ReleaseInput) (b : Bool) (s : State) : State :=
  match i with
  | .ra =>
    if s.harness.ra = b then s
    else raise .loom .releaseInputChange (followDrivers { s with harness.ra := b })
  | .rb =>
    if s.harness.rb = b then s
    else raise .loom .releaseInputChange (followDrivers { s with harness.rb := b })

end Sys2Proof.Machine
end

