-- ==== Sys2Proof/Machine/Memory.lean ====
section
/-! DEFINITION. Pattern memory: where a line lies, and reading and writing bursts (R145, R163). -/

namespace Sys2Proof.Machine

/-- Pattern memory as the bytes written so far, by strictly rising address. A byte that is not listed has not been
written and has no value (log 11). -/
abbrev Memory := List Host.Cell

/-- The canonical form of pattern memory: addresses strictly rising. -/
def Memory.wf (m : Memory) : Bool := decide (m.Pairwise (fun x y => x.1 < y.1))

/-- The byte at an address, if it has been written. -/
def readByte : Memory → Nat → Option Byte
  | [], _ => none
  | (x, b) :: m, a => if x = a then some b else readByte m a

/-- Writes one byte, keeping the addresses rising. -/
def writeByte : Memory → Nat → Byte → Memory
  | [], a, b => [(a, b)]
  | (x, y) :: m, a, b =>
    if a < x then (a, b) :: (x, y) :: m else if a = x then (a, b) :: m else (x, y) :: writeByte m a b

/-- Writes bytes from an address upward. -/
def writeBytes : Memory → Nat → List Byte → Memory
  | m, _, [] => m
  | m, a, b :: bs => writeBytes (writeByte m a b) (a + 1) bs

/-- Reads `n` bytes from an address upward, if all of them have been written. -/
def readBytes (m : Memory) : Nat → Nat → Option (List Byte)
  | _, 0 => some []
  | a, n + 1 =>
    match readByte m a, readBytes m (a + 1) n with
    | some b, some bs => some (b :: bs)
    | _, _ => none

/-- The bytes of one burst (R145). -/
def burstBytes : Nat := 64

/-- Where a bank's half begins (R145): 16 MiB each. -/
def bankBase : BankId → Nat
  | .bankA => 0
  | .bankB => 16777216

/-- The address of burst `n` of a line's slot (R145): slots of 2,048 bytes, bursts of 64. -/
def burstAddress (b : BankId) (line n : Nat) : Nat := bankBase b + line * 2048 + n * burstBytes

/-- The bytes that carry columns 0..W−1 of a line: ceil(W/4) (R61, R145). -/
def lineBytes (w : Nat) : Nat := (w + 3) / 4

/-- The bursts of a line of width W: ceil(ceil(W/4) / 64) (R61, R145). -/
def lineBursts (w : Nat) : Nat := (lineBytes w + 63) / 64

/-- Bytes `64 n .. 64 n + 63` of a line as it is written, those beyond its cells written as 0 (R161). -/
def burstData (cells : List Byte) (n : Nat) : List Byte :=
  let part := (cells.drop (n * burstBytes)).take burstBytes
  part ++ List.replicate (burstBytes - part.length) 0#8

end Sys2Proof.Machine
end

