-- ==== Sys2Proof/Machine/Articles.lean ====
section
/-! DEFINITION. Reading article records: schemes, resolution of the next and the previous pick (R24, R25), the close
validation (R150), and the banks of a state. -/

namespace Sys2Proof.Machine

/-- A new record (R146). -/
def Article.fresh (width height : Nat) (face : Face) : Article :=
  { width := width, height := height, face := face, schemes := Vector.replicate 8 none,
    weaves := Vector.replicate 8 (Vector.replicate 4 none), feeders := Vector.replicate 8 none,
    lines := List.replicate height none, retained := none }

/-- The scheme number the line table holds for a line, if the line is written (R146). -/
def Article.schemeNumber (a : Article) (line : Nat) : Option (Fin 8) := a.lines.getD line none

/-- The steps of the scheme of a line; empty where there is none, which no weaving article has (R150, log 22). -/
def Article.stepsAt (a : Article) (line : Nat) : List SchemeStep :=
  match a.schemeNumber line with
  | none => []
  | some n => (a.schemes[n]).getD []

/-- len(L) (R23). -/
def Article.len (a : Article) (line : Nat) : Nat := (a.stepsAt line).length

/-- The scheme step of a pick (R63). -/
def Article.stepAt (a : Article) (line step : Nat) : SchemeStep :=
  (a.stepsAt line).getD step { system := 0, shift := 0 }

/-- The pick after (L, s) within the repeat, `none` where the move is a wrap (R24). -/
def Article.nextPick (a : Article) (line step : Nat) : Option (Nat × Nat) :=
  if step + 1 < a.len line then some (line, step + 1)
  else if line + 1 < a.height then some (line + 1, 0)
  else none

/-- The pick before (L, s) within the repeat, `none` where the move crosses the start of the repeat (R25). -/
def Article.prevPick (a : Article) (line step : Nat) : Option (Nat × Nat) :=
  if 0 < step then some (line, step - 1)
  else if 0 < line then some (line - 1, a.len (line - 1) - 1)
  else none

/-- The last pick of the repeat (R25). -/
def Article.lastPick (a : Article) : Nat × Nat := (a.height - 1, a.len (a.height - 1) - 1)

/-- The number of lines marked written (R167). -/
def Article.linesWritten (a : Article) : Nat := a.lines.countP Option.isSome

/-! ## Close validation (R150) -/

/-- A scheme number is held in the line table. -/
def Article.namesScheme (a : Article) (n : Fin 8) : Bool := a.lines.contains (some n)

/-- A weft system is named by a step of a scheme held in the line table. -/
def Article.usesSystem (a : Article) (ws : Fin 8) : Bool :=
  (List.finRange 8).any fun n => a.namesScheme n && ((a.schemes[n]).getD []).any (fun st => st.system == ws)

/-- The lowest line not written. -/
def Article.missingLine (a : Article) : Option Nat := a.lines.findIdx? Option.isNone

/-- The lowest scheme number held in the line table that is undefined. -/
def Article.undefinedScheme (a : Article) : Option (Fin 8) :=
  (List.finRange 8).find? fun n => a.namesScheme n && (a.schemes[n]).isNone

/-- The lowest undefined weave of a weft system. -/
def Article.undefinedEffect (a : Article) (ws : Fin 8) : Option (Fin 4) :=
  (List.finRange 4).find? fun e => ((a.weaves[ws])[e]).isNone

/-- The lowest used weft system with an undefined weave, and its lowest undefined effect code. -/
def Article.undefinedWeave (a : Article) : Option (Fin 8 × Fin 4) :=
  (List.finRange 8).findSome? fun ws =>
    if a.usesSystem ws then (a.undefinedEffect ws).map (fun e => (ws, e)) else none

/-- The lowest used weft system whose feeder entry is undefined. -/
def Article.undefinedFeeder (a : Article) : Option (Fin 8) :=
  (List.finRange 8).find? fun ws => a.usesSystem ws && (a.feeders[ws]).isNone

/-- The close validation: four tests in order, the first that fails gives the result (R150). -/
def Article.validate (a : Article) : CloseResult :=
  match a.missingLine with
  | some l => .linesMissing l
  | none =>
    match a.undefinedScheme with
    | some n => .schemeUndefined n
    | none =>
      match a.undefinedWeave with
      | some (ws, e) => .weaveUndefined ws e
      | none =>
        match a.undefinedFeeder with
        | some ws => .feederUndefined ws
        | none => .ok

/-! ## The banks of a state -/

/-- The other bank. -/
def otherBank : BankId → BankId
  | .bankA => .bankB
  | .bankB => .bankA

/-- A bank of the pattern store. -/
def PatternStore.bank (p : PatternStore) : BankId → Bank
  | .bankA => p.bankA
  | .bankB => p.bankB

/-- Replaces a bank of the pattern store. -/
def PatternStore.setBank (p : PatternStore) (k : BankId) (x : Bank) : PatternStore :=
  match k with
  | .bankA => { p with bankA := x }
  | .bankB => { p with bankB := x }

/-- A bank of a state. -/
def State.bank (s : State) (k : BankId) : Bank := s.store.bank k

/-- Replaces a bank of a state. -/
def State.setBank (s : State) (k : BankId) (x : Bank) : State := { s with store := s.store.setBank k x }

/-- The record of a bank; a blank one where the bank is EMPTY, which no rule reads (R146, log 22). -/
def Bank.article (b : Bank) : Article := b.record.getD (Article.fresh 8 1 .up)

/-- The article of a bank of a state. -/
def State.article (s : State) (k : BankId) : Article := (s.bank k).article

/-- A bank with another state. -/
def Bank.withState (b : Bank) (x : BankState) : Bank := { b with state := x }

/-- A bank with its retained position written or dropped (R39). -/
def Bank.withRetained (b : Bank) (r : Option Retained) : Bank :=
  { b with record := b.record.map fun a => { a with retained := r } }

/-- Runs the close validation of a bank: READY when it passes, OPEN when it fails (R150). -/
def Bank.closed (b : Bank) : Bank :=
  let r := b.article.validate
  { b with state := if r = .ok then .ready else .opened, closeResult := r }

end Sys2Proof.Machine
end

