-- ==== Sys2Proof/Machine/Operands.lean ====
section
/-! DEFINITION. The fields of a command's parameters as R199 and R201 lay them out, and the fields of a reply. -/

namespace Sys2Proof.Machine

/-! ## Reading fields -/

/-- The one-byte field at an offset (R199). -/
def byteAt (p : List Byte) (i : Nat) : Nat := (p.getD i 0#8).toNat

/-- The two-byte field at an offset, most significant byte first (R199). -/
def wordAt (p : List Byte) (i : Nat) : Nat := byteAt p i * 256 + byteAt p (i + 1)

/-- The four-byte field at an offset, most significant byte first (R199). -/
def longAt (p : List Byte) (i : Nat) : Nat := wordAt p i * 65536 + wordAt p (i + 2)

/-- A sixteen-bit flag set, event n at weight 2^n of the two-byte number (R203). -/
def flagsAt (p : List Byte) (i : Nat) : BitVec 16 := BitVec.ofNat 16 (wordAt p i)

/-- A number in range as an index. -/
def indexOf (m n : Nat) : Option (Fin m) := if h : n < m then some ⟨n, h⟩ else none

/-- Takes a value into a range by its ends (R14, R43, R73, R121). -/
def clamp (lo hi n : Nat) : Nat := max lo (min hi n)

/-- A bank byte: 00h A, 01h B (R199). -/
def bankOf : Nat → Option BankId
  | 0 => some .bankA
  | 1 => some .bankB
  | _ => none

/-- A feeder number 1–8 (R86, R158). -/
def feederOf (n : Nat) : Option (Fin 8) := if h : 1 ≤ n ∧ n ≤ 8 then some ⟨n - 1, by omega⟩ else none

/-- Face codes (R199). -/
def faceOf : Nat → Option Face
  | 0 => some .up
  | 1 => some .down
  | _ => none

/-- Section mode codes (R199). -/
def sectionModeOf : Nat → Option SectionMode
  | 0 => some .straight
  | 1 => some .point
  | _ => none

/-- Feeder mode codes (R199). -/
def feederModeOf : Nat → Option FeederMode
  | 0 => some .single
  | 1 => some .alternate
  | _ => none

/-- Float-guard mode codes (R199). -/
def guardModeOf : Nat → Option GuardMode
  | 0 => some .off
  | 1 => some .bind
  | 2 => some .stop
  | _ => none

/-- Loss policy codes (R199). -/
def lossPolicyOf : Nat → Option LossPolicy
  | 0 => some .hold
  | 1 => some .release
  | _ => none

/-- The bytes of one row of a grid: ceil(width / 8) (R201). -/
def rowBytes (width : Nat) : Nat := (width + 7) / 8

/-- A grid from its bytes: rows in order, the bit of column c at weight 2^(c mod 8) of the row's byte floor(c/8); bits
beyond the width are not stored (R201). -/
def gridOf (width height : Nat) (bytes : List Byte) : Grid :=
  { width := width, height := height,
    rows := (List.range height).map fun r =>
      (List.range width).map fun c => (bytes.getD (r * rowBytes width + c / 8) 0#8).getLsbD (c % 8) }

/-- Why a command's own fields are refused, with the number of the first failing field (R188). -/
abbrev FieldFailure := Reason × Nat

/-- The steps of DEFINE SCHEME, field by field from field number `f`: a field out of range is RANGE, a step missing or
in excess is LENGTH, each with the number of the first field that fails (R155, R156, log 18). -/
def stepsOf : Nat → List Byte → Nat → Except FieldFailure (List SchemeStep)
  | 0, [], _ => .ok []
  | 0, _ :: _, f => .error (.length, f)
  | _ + 1, [], f => .error (.length, f)
  | n + 1, w :: rest, f =>
    match indexOf 8 w.toNat with
    | none => .error (.range, f)
    | some ws =>
      match rest with
      | [] => .error (.length, f + 1)
      | z :: rest' =>
        if 23 < z.toNat then .error (.range, f + 1)
        else
          match stepsOf n rest' (f + 2) with
          | .ok l => .ok ({ system := ws, shift := z.toNat } :: l)
          | .error e => .error e

/-- The fields of a used section after its kind (R56, R132): `Except` gives the number of the first failing field. R56
gives the ranges of the first hook and the count in FIGURE's row alone; they are taken of SELVAGE and DEAD too (DESIGN
CHOICE, log 36). -/
def sectionOf (kind first count c0 w last : Nat) : Except Nat Section :=
  if 12287 < first then .error 2
  else if count = 0 ∨ 12288 < count ∨ 12287 < first + count - 1 then .error 3
  else if kind = 1 then
    if 8191 < c0 then .error 4
    else if w = 0 ∨ 8192 < w ∨ 8191 < c0 + w - 1 then .error 5
    else
      match sectionModeOf last with
      | none => .error 6
      | some m => .ok { first := first, count := count, kind := .figure c0 w m }
  else if kind = 2 then
    match indexOf 4 last with
    | none => .error 6
    | some j => .ok { first := first, count := count, kind := .selvage j }
  else .ok { first := first, count := count, kind := .dead }

/-- The content of a section record: unused, or a section (R132, the section record of spec/11). -/
def sectionRecordOf (p : List Byte) : Except Nat (Option Section) :=
  let kind := byteAt p 1
  if kind = 0 then .ok none
  else if 3 < kind then .error 1
  else
    match sectionOf kind (wordAt p 2) (wordAt p 4) (wordAt p 6) (wordAt p 8) (byteAt p 10) with
    | .ok x => .ok (some x)
    | .error f => .error f

/-- A grid item with its width, height and grid bytes: `none` makes the item undefined. Fields are numbered from `f`
for the width; the largest side is `m`; `blank` is the refusal of a grid that comes with a width and height of 0, which
R133 refuses with LENGTH and R157 with RANGE. -/
def gridItemOf (m f : Nat) (blank : FieldFailure) (width height : Nat) (bytes : List Byte) :
    Except FieldFailure (Option Grid) :=
  if width = 0 ∧ height = 0 then if bytes = [] then .ok none else .error blank
  else if width = 0 ∨ m < width then .error (.range, f)
  else if height = 0 ∨ m < height then .error (.range, f + 1)
  else if bytes.length = height * rowBytes width then .ok (some (gridOf width height bytes))
  else .error (.length, f + 2)

/-- The feeder entry of DEFINE FEEDERS from its fields 2–4: `none` makes it undefined (R158). -/
def feederEntryOf (primary alternate mode : Nat) : Except Nat (Option FeederEntry) :=
  if primary = 0 then .ok none
  else
    match feederOf primary with
    | none => .error 2
    | some f =>
      if alternate ≠ 0 ∧ feederOf alternate = none ∨ alternate = primary then .error 3
      else
        match feederModeOf mode with
        | none => .error 4
        | some m => .ok (some { primary := f, alternate := feederOf alternate, mode := m })

/-- The cells of a line with those beyond column W−1 of the last byte set to 0 (R159). -/
def maskCells (w : Nat) (cells : List Byte) : List Byte :=
  if w % 4 = 0 then cells
  else cells.set (w / 4) (BitVec.ofNat 8 ((cells.getD (w / 4) 0#8).toNat % 4 ^ (w % 4)))

/-! ## Writing fields -/

/-- A one-byte field (R199). -/
def u8 (n : Nat) : List Byte := [BitVec.ofNat 8 n]

/-- A two-byte field, most significant byte first (R199). -/
def u16 (n : Nat) : List Byte := [BitVec.ofNat 8 (n / 256), BitVec.ofNat 8 n]

/-- A four-byte field, most significant byte first (R199). -/
def u32 (n : Nat) : List Byte :=
  [BitVec.ofNat 8 (n / 16777216), BitVec.ofNat 8 (n / 65536), BitVec.ofNat 8 (n / 256), BitVec.ofNat 8 n]

/-- A flag byte 00h or 01h. -/
def flag (b : Bool) : Nat := if b then 1 else 0

/-- A set of items as a number, item n at weight 2^n (R204). -/
def setNumber (l : List Bool) : Nat := l.foldr (fun b n => flag b + 2 * n) 0

/-- The bank byte of a reply (R199). -/
def bankCode : BankId → Nat
  | .bankA => 0
  | .bankB => 1

/-- A feeder in a reply, 0 for none (R202, R203). -/
def feederCode : Option (Fin 8) → Nat
  | none => 0
  | some f => f.val + 1

/-- The bytes of a grid as READ HARNESS returns it, bits beyond the width 0 (R201). -/
def gridBytes (g : Grid) : List Byte :=
  (List.range g.height).flatMap fun r =>
    (List.range (rowBytes g.width)).map fun m =>
      BitVec.ofNat 8 (setNumber (((g.rows.getD r []).drop (8 * m)).take 8))

end Sys2Proof.Machine
end

