-- ==== Sys2Proof/Machine/Tables.lean ====
section
/-! DEFINITION. Reading a harness table: where a hook stands (R54, R127), its section and column (R55–R60), the width
check (R34) and the validation of a commit (R135). -/

namespace Sys2Proof.Machine

/-- The lengths of the eight chains in chain order. -/
def HarnessTable.lengths (t : HarnessTable) : List Nat := t.chains.toList.map (·.length)

/-- The hook count H (R127). -/
def HarnessTable.hooks (t : HarnessTable) : Nat := t.lengths.sum

/-- The number of the hook at position 0 of a chain (R54). -/
def HarnessTable.chainBase (t : HarnessTable) (c : Nat) : Nat := (t.lengths.take c).sum

/-- The chain and position of a hook (R54). -/
def HarnessTable.locate (t : HarnessTable) (h : Nat) : Option (Fin 8 × Nat) :=
  ((List.finRange 8).find? fun (c : Fin 8) => decide (t.chainBase c ≤ h) && decide (h < t.chainBase c + (t.chains[c]).length)).map
    fun c => (c, h - t.chainBase c)

/-- A section holds a hook (R55). -/
def Section.holds (x : Section) (h : Nat) : Bool := decide (x.first ≤ h) && decide (h < x.first + x.count)

/-- The section that holds a hook, by content (R55). -/
def HarnessTable.sectionAt (t : HarnessTable) (h : Nat) : Option Section :=
  (List.finRange 16).findSome? fun i =>
    match t.sections[i] with
    | some x => if x.holds h then some x else none
    | none => none

/-- The design column of the hook at offset k of a FIGURE section (R58, R59). -/
def figureColumn (c0 w : Nat) (mode : SectionMode) (k : Nat) : Nat :=
  match mode with
  | .straight => c0 + k % w
  | .point =>
    if w < 2 then c0 + k % w
    else
      let p := 2 * w - 2
      let r := k % p
      if r < w then c0 + r else c0 + (p - r)

/-- The bit of a grid; a row or column the grid does not hold reads 0, which no rule reaches (log 22). -/
def Grid.bit (g : Grid) (row col : Nat) : Bool := (g.rows.getD row []).getD col false

/-- A hook is a FIGURE hook of a table (R74). -/
def HarnessTable.isFigure (t : HarnessTable) (h : Nat) : Bool :=
  match t.sectionAt h with
  | some x =>
    match x.kind with
    | .figure _ _ _ => true
    | _ => false
  | none => false

/-- The columns of a section reach a width: it is FIGURE and c0 + w − 1 is not below W (R34, R135). -/
def Section.reaches (x : Section) (width : Nat) : Bool :=
  match x.kind with
  | .figure c0 w _ => decide (width ≤ c0 + w - 1)
  | _ => false

/-- A used slot whose FIGURE columns reach a width. -/
def HarnessTable.slotReaches (t : HarnessTable) (width : Nat) (i : Fin 16) : Bool :=
  match t.sections[i] with
  | some x => x.reaches width
  | none => false

/-- The first section slot, in ascending order, whose FIGURE columns reach a width (R152). -/
def HarnessTable.tooWide (t : HarnessTable) (width : Nat) : Option (Fin 16) :=
  (List.finRange 16).find? (t.slotReaches width)

/-- The width check of a width against a table (R34). -/
def HarnessTable.fits (t : HarnessTable) (width : Nat) : Bool := (t.tooWide width).isNone

/-- Two sections share a hook (R135). -/
def Section.overlaps (x y : Section) : Bool :=
  decide (x.first < y.first + y.count) && decide (y.first < x.first + x.count)

/-- A slot shares a hook with a used slot below it (R135). -/
def HarnessTable.overlapsBelow (t : HarnessTable) (i : Fin 16) (x : Section) : Bool :=
  (List.finRange 16).any fun j =>
    decide (j < i) &&
      match t.sections[j] with
      | some y => x.overlaps y
      | none => false

/-- A section names a selvage weave undefined in its table (R135). -/
def HarnessTable.selvageMissing (t : HarnessTable) (x : Section) : Bool :=
  match x.kind with
  | .selvage j => (t.selvages[j]).isNone
  | _ => false

/-- The first test of R135 that one slot fails, given the width of the weaving article if one weaves. A used slot in a
table of 0 hooks fails the first test, as the rule's table has it; the rule's last sentence, that a shadow whose hook
count is 0 passes, is taken of a shadow with no used slot (DESIGN CHOICE, log 34). -/
def HarnessTable.slotFailure (t : HarnessTable) (width : Option Nat) (i : Fin 16) : Option InvalidCause :=
  match t.sections[i] with
  | none => none
  | some x =>
    if t.hooks ≤ x.first + x.count - 1 then some .beyondHooks
    else if t.overlapsBelow i x then some .overlap
    else if t.selvageMissing x then some .selvageUndefined
    else
      match width with
      | some w => if x.reaches w then some .tooWide else none
      | none => none

/-- The validation of a commit: the first slot that fails, with its cause (R135). -/
def HarnessTable.failure (t : HarnessTable) (width : Option Nat) : Option (Fin 16 × InvalidCause) :=
  (List.finRange 16).findSome? fun i => (t.slotFailure width i).map fun c => (i, c)

/-- The lift a selection holds for a hook under a table's layout; a hook beyond the layout and a chain without a
selection read not lifted (R118). -/
def hookLift (sel : Selection) (t : HarnessTable) (h : Nat) : Bool :=
  match t.locate h with
  | none => false
  | some (c, j) =>
    match sel[c] with
    | none => false
    | some l => l.getD j false

/-- A selection from the lift of each hook, laid out along a table's chains (R54, R111). A chain of length 0 receives
nothing and holds a selection of no lifts (DESIGN CHOICE, log 33). -/
def selectionOf (t : HarnessTable) (lift : Nat → Bool) : Selection :=
  Vector.ofFn fun c => some ((List.range (t.chains[c]).length).map fun j => lift (t.chainBase c + j))

/-- A selection carried over to another layout, position by position (R117). -/
def relayout (t : HarnessTable) (sel : Selection) : Selection :=
  Vector.ofFn fun c => (sel[c]).map fun l => (List.range (t.chains[c]).length).map fun j => l.getD j false

end Sys2Proof.Machine
end

