-- ==== Sys2Proof/Machine/Shed.lean ====
section
/-! DEFINITION. Computing the shed (R52–R69) and the float guard's test and commit (R75–R80). -/

namespace Sys2Proof.Machine

/-- The effect code of a column in the bytes of a line (R62). -/
def effectCode (cells : List Byte) (col : Nat) : Nat := (cells.getD (col / 4) 0#8).toNat / 4 ^ (col % 4) % 4

/-- The bit of weave (ws, e) at line L, row shift z, column col (R64). -/
def weaveBit (a : Article) (st : SchemeStep) (line e col : Nat) : Bool :=
  match indexOf 4 e with
  | none => false
  | some e =>
    match (a.weaves[st.system])[e] with
    | none => false
    | some g => g.bit ((line + st.shift) % g.height) (col % g.width)

/-- A lift after face: DOWN inverts it (R65). -/
def afterFace (f : Face) (b : Bool) : Bool :=
  match f with
  | .up => b
  | .down => !b

/-- The computed lift of a FIGURE hook at offset k (R58–R65). -/
def figureLift (a : Article) (cells : List Byte) (p : Position) (c0 w : Nat) (mode : SectionMode) (k : Nat) : Bool :=
  let col := figureColumn c0 w mode k
  afterFace a.face (weaveBit a (a.stepAt p.line p.step) p.line (effectCode cells col) col)

/-- The lift of a SELVAGE hook at offset k (R66). -/
def selvageLift (t : HarnessTable) (j : Fin 4) (pickValue k : Nat) : Bool :=
  match t.selvages[j] with
  | none => false
  | some g => g.bit (pickValue % g.height) (k % g.width)

/-- The computed lift of a hook, after face and before the float guard (R55, R57, R65, R66). -/
def computedLift (t : HarnessTable) (a : Article) (cells : List Byte) (d : Descriptor) (h : Nat) : Bool :=
  match t.sectionAt h with
  | none => false
  | some x =>
    match x.kind with
    | .dead => false
    | .selvage j => selvageLift t j d.pickValue (h - x.first)
    | .figure c0 w mode => figureLift a cells d.position c0 w mode (h - x.first)

/-! ## Float guard -/

/-- The sense of a lift (R76). -/
def senseOf (b : Bool) : Sense := if b then .up else .down

/-- The limit of a lift's sense (R72). -/
def GuardSettings.limit (g : GuardSettings) (b : Bool) : Nat := if b then g.up else g.down

/-- The committed state of a hook (R74). -/
def committedAt (l : List FloatRun) (h : Nat) : FloatRun := l.getD h { sense := .none, run := 0 }

/-- A lift is at limit for its hook (R76). -/
def atLimit (v : GuardView) (h : Nat) (b : Bool) : Bool :=
  decide (v.settings.limit b ≠ 0) && (committedAt v.committed h).sense == senseOf b &&
    (committedAt v.committed h).run == v.settings.limit b

/-- The guard tests a hook of a frame: a FORWARD frame without the LEVEL mark, a FIGURE hook, a mode other than OFF
(R75, R76). -/
def guardTests (t : HarnessTable) (d : Descriptor) (v : GuardView) (h : Nat) : Bool :=
  d.kind == .forward && !d.level && v.settings.mode != .off && t.isFigure h

/-- A hook of a frame is found at limit (R76). -/
def foundAtLimit (t : HarnessTable) (a : Article) (cells : List Byte) (d : Descriptor) (v : GuardView) (h : Nat) :
    Bool :=
  guardTests t d v h && atLimit v h (computedLift t a cells d h)

/-- The lift a frame delivers for a hook: 0 under LEVEL, inverted where BIND finds the hook at limit, else as computed
(R67, R69, R76–R78). -/
def deliveredLift (t : HarnessTable) (a : Article) (cells : List Byte) (d : Descriptor) (v : GuardView) (h : Nat) :
    Bool :=
  if d.level then false
  else if v.settings.mode == .bind && foundAtLimit t a cells d v h then !computedLift t a cells d h
  else computedLift t a cells d h

/-- The bind count of a frame: the hooks BIND inverted (R77). -/
def bindCount (t : HarnessTable) (a : Article) (cells : List Byte) (d : Descriptor) (v : GuardView) : Nat :=
  if v.settings.mode == .bind then (List.range t.hooks).countP (foundAtLimit t a cells d v) else 0

/-- The FLOAT VIOLATION mark: STOP found a hook at limit (R78). -/
def violates (t : HarnessTable) (a : Article) (cells : List Byte) (d : Descriptor) (v : GuardView) : Bool :=
  v.settings.mode == .stop && (List.range t.hooks).any (foundAtLimit t a cells d v)

/-- The cap of a lift's sense (R79). -/
def GuardSettings.cap (g : GuardSettings) (b : Bool) : Nat := if g.limit b = 0 then 64 else g.limit b

/-- The committed state of a FIGURE hook after a delivered lift (R79). -/
def growRun (g : GuardSettings) (r : FloatRun) (b : Bool) : FloatRun :=
  if r.sense = senseOf b then { sense := senseOf b, run := min (r.run + 1) (g.cap b) }
  else { sense := senseOf b, run := 1 }

/-- The commit of R79: every FIGURE hook's run grows or restarts from its delivered lift. -/
def commitRuns (t : HarnessTable) (g : GuardSettings) (sel : Selection) (l : List FloatRun) : List FloatRun :=
  (List.range t.hooks).map fun h =>
    if t.isFigure h then growRun g (committedAt l h) (hookLift sel t h) else { sense := .none, run := 0 }

end Sys2Proof.Machine
end

