-- ==== Sys2Proof/Machine/Weft.lean ====
section
/-! DEFINITION. Weft selection: resolving a feeder (R88–R91), alternation (R92, R93), the feeder output and the weft
gate (R94–R99). -/

namespace Sys2Proof.Machine

/-- Tries a feeder and then the other one of an entry: the feeder found, and whether it is a substitution (R89, R90). -/
def tryFeeders (available : Vector Bool 8) (first : Fin 8) (other : Option (Fin 8)) : Option (Fin 8) × Bool :=
  if available[first] then (some first, false)
  else
    match other with
    | none => (none, false)
    | some o => if available[o] then (some o, true) else (none, false)

/-- The resolution of a frame's feeder (R88–R90): an ALTERNATE entry with an alternate defined tries the feeder of its
turn first, every other entry its primary. An undefined entry, which no validated article uses, gives none (log 22). -/
def resolveFeeder (entry : Option FeederEntry) (turn : Alternation) (available : Vector Bool 8) :
    Option (Fin 8) × Bool :=
  match entry with
  | none => (none, false)
  | some e =>
    match e.mode, e.alternate, turn with
    | .alternate, some second, .alternateNext => tryFeeders available second (some e.primary)
    | _, _, _ => tryFeeders available e.primary e.alternate

/-- Re-resolution: the primary if available, otherwise the alternate if available, otherwise none (R97). -/
def reResolve (entry : Option FeederEntry) (available : Vector Bool 8) : Option (Fin 8) :=
  match entry with
  | none => none
  | some e => (tryFeeders available e.primary e.alternate).1

/-- What a resolution raises at once (R91). -/
def raiseResolution (r : Option (Fin 8) × Bool) (s : State) : State :=
  match r.1 with
  | none => reportFault .weftUnavailable .none s
  | some _ => raiseIf r.2 .loom .feederSubstituted s

/-- Every alternation state PRIMARY NEXT (R92). -/
def freshAlternation : Vector Alternation 8 := Vector.replicate 8 .primaryNext

/-- The alternation state of the frame's system after its latch: the opposite of the feeder it resolved, for an
ALTERNATE entry with an alternate defined (R93). -/
def alternationAfter (d : Descriptor) (alts : Vector Alternation 8) : Vector Alternation 8 :=
  match d.entry, d.resolved with
  | some e, some f =>
    match e.mode, e.alternate with
    | .alternate, some second =>
      if f = e.primary then alts.set d.system .alternateNext
      else if f = second then alts.set d.system .primaryNext
      else alts
    | _, _ => alts
  | _, _ => alts

/-- Sets the feeder output and its record (R94). -/
def setOutput (f : Option (Fin 8)) (r : Option OutputRecord) (s : State) : State :=
  { s with frame.output := f, frame.outputRecord := r }

/-- Re-resolves the feeder output by the entry of a record: the output becomes the result, which raises FEEDER
SUBSTITUTED or WEFT UNAVAILABLE (R97). -/
def reResolveOutput (r : OutputRecord) (s : State) : State :=
  let f := reResolve r.entry s.frame.available
  let s := setOutput f (some r) s
  match f with
  | none => reportFault .weftUnavailable .none s
  | some _ => raiseIf (f != r.resolved) .loom .feederSubstituted s

/-- A feeder can be output as it is: it is none, or still available (R95, R96). -/
def presentable (f : Option (Fin 8)) (available : Vector Bool 8) : Bool :=
  match f with
  | none => true
  | some x => available[x]

/-- Presents the feeder of a latched frame, re-resolving it where it has been marked out (R95, R96). -/
def presentFeeder (f : Option (Fin 8)) (d : Descriptor) (s : State) : State :=
  let r : OutputRecord := { system := d.system, entry := d.entry, resolved := d.resolved }
  if presentable f s.frame.available then setOutput f (some r) s else reResolveOutput r s

/-- A crossing of the weft select mark S (R95). -/
def weftSelect (s : State) : State :=
  if s.pick.engine ≠ .weaving then setOutput none none s
  else if s.pick.reforming then s
  else
    match s.frame.pickFeeder, s.frame.latchedDesc with
    | .frame f, some d => presentFeeder f d s
    | _, _ => setOutput none none s

/-- FEEDER OUT of a feeder: the flag, and at once the output where it names that feeder (R86, R97). -/
def takeFeederOut (f : Fin 8) (s : State) : State :=
  let s := { s with frame.available := s.frame.available.set f false }
  if s.frame.output = some f then
    match s.frame.outputRecord with
    | some r => reResolveOutput r s
    | none => setOutput none none s
  else s

/-- FEEDER IN of a feeder: the flag alone (R86). -/
def bringFeederIn (f : Fin 8) (s : State) : State :=
  { s with frame.available := s.frame.available.set f true }

/-- The weft gate at a count that crosses G_on, G_off, both or neither (R99, R100). -/
def gateMarks (on off : Bool) (s : State) : State :=
  if off then { s with frame.gate := false }
  else if on && s.pick.engine == .weaving then { s with frame.gate := true }
  else s

/-- The feeder output becomes none and the gate closes: entry to LOST and UNLOAD (R98, R99). -/
def weftOff (s : State) : State :=
  { s with frame.output := none, frame.outputRecord := none, frame.gate := false }

end Sys2Proof.Machine
end

