-- ==== Sys2Proof/Machine/Engine.lean ====
section
/-! DEFINITION. The pick engine: forward and backward resolution (R24–R26), the swap decision, its commit and refusal
(R35–R37), the undo (R40), and the pick history (R47–R49). -/

namespace Sys2Proof.Machine

/-- The largest pick counter (R31). -/
def maxCount : Nat := 4294967295

/-- The largest repeat count (R26). -/
def maxRepeat : Nat := 65535

/-- Clears the committed state of every hook (R80, R81). -/
def clearFloat (s : State) : State := { s with frame.committed := [] }

/-- Sets the position record (R23). -/
def setPosition (p : Position) (s : State) : State := { s with pick.position := some p }

/-- The width check of a bank's article against the live harness (R34). -/
def State.fits (s : State) (b : BankId) : Bool := s.harness.live.fits (s.article b).width

/-- What a wrap of the weaving bank finds: no ARMED bank, or the swap decision's outcome (R35). -/
inductive WrapOutcome where
  | plain
  | refused
  | swap
  deriving DecidableEq, Repr

/-- The swap decision at a wrap (R35, R37): plain unless the other bank is ARMED, then the width check. -/
def State.wrapOutcome (s : State) (b : BankId) : WrapOutcome :=
  if (s.bank (otherBank b)).state = .armed then if s.fits (otherBank b) then .swap else .refused else .plain

/-- The pick a plain wrap goes to (R24, R26). -/
def Position.wrapped (p : Position) : Position :=
  { bank := p.bank, line := 0, step := 0, rep := min (p.rep + 1) maxRepeat }

/-- The first pick of a bank that begins weaving (R26). -/
def Position.first (b : BankId) : Position := { bank := b, line := 0, step := 0, rep := 0 }

/-- A failed swap decision: the ARMED bank becomes READY and SWAP REFUSED is raised (R37). -/
def refuseSwap (b : BankId) (s : State) : State :=
  raiseBoth .swapRefused (s.setBank b ((s.bank b).withState .ready))

/-- The change of the weaving bank from position p to the other bank: the old bank RETIRED with its position retained,
the other WEAVING at (0, 0, 0), the exchange note set, alternation and float state fresh, SWAP raised (R36, R45). -/
def commitSwap (p : Position) (s : State) : State :=
  let old := (s.bank p.bank).withRetained (some { line := p.line, step := p.step, rep := p.rep })
  let s := s.setBank p.bank (old.withState .retired)
  let s := s.setBank (otherBank p.bank) ((s.bank (otherBank p.bank)).withState .weaving)
  raiseBoth .swap
    { s with
      pick := { s.pick with position := some (Position.first (otherBank p.bank)), exchangeNote := true }
      frame := { s.frame with alternation := freshAlternation, committed := [] } }

/-- A wrap within the weaving article, with WRAP raised (R24, R28). -/
def plainWrap (p : Position) (s : State) : State := raiseBoth .wrap (setPosition p.wrapped s)

/-- A wrap with its swap decision taken now (R35–R37). -/
def wrapNow (p : Position) (s : State) : State :=
  match s.wrapOutcome p.bank with
  | .plain => plainWrap p s
  | .refused => plainWrap p (refuseSwap (otherBank p.bank) s)
  | .swap => commitSwap p s

/-- A forward move of the position by one pick (R24). `decided` is the swap mark of the frame whose assembly start
already took the decision, `none` where the decision is still to be taken at a wrap (R35). -/
def forwardMove (decided : Option Bool) (s : State) : State :=
  match s.pick.position with
  | none => s
  | some p =>
    match (s.article p.bank).nextPick p.line p.step with
    | some (l, st) => setPosition { p with line := l, step := st } s
    | none =>
      match decided with
      | none => wrapNow p s
      | some true => commitSwap p s
      | some false => plainWrap p s

/-- The pick a backward move across the start of the repeat goes to within the article (R25, R26). -/
def State.wrappedBack (s : State) (p : Position) : Position :=
  let (l, st) := (s.article p.bank).lastPick
  { bank := p.bank, line := l, step := st, rep := p.rep - 1 }

/-- An undo whose width check passes (R40): the RETIRED bank WEAVING again at its retained position, the bank that wove
ARMED, the exchange note set, alternation and float state fresh, SWAP UNDONE raised. -/
def undoSwap (p : Position) (s : State) : State :=
  let o := otherBank p.bank
  let r := ((s.bank o).record.bind (·.retained)).getD { line := 0, step := 0, rep := 0 }
  let s := s.setBank p.bank ((s.bank p.bank).withState .armed)
  let s := s.setBank o (((s.bank o).withRetained none).withState .weaving)
  raiseBoth .swapUndone
    { s with
      pick := { s.pick with
        position := some { bank := o, line := r.line, step := r.step, rep := r.rep }, exchangeNote := true }
      frame := { s.frame with alternation := freshAlternation, committed := [] } }

/-- A backward move crosses the start of the weaving article onto a RETIRED bank (R25). -/
def State.undoDue (s : State) (p : Position) : Bool :=
  ((s.article p.bank).prevPick p.line p.step).isNone && p.rep == 0 && (s.bank (otherBank p.bank)).state == .retired

/-- A backward move of the position by one pick (R25, R40). -/
def backwardMove (s : State) : State :=
  match s.pick.position with
  | none => s
  | some p =>
    match (s.article p.bank).prevPick p.line p.step with
    | some (l, st) => setPosition { p with line := l, step := st } s
    | none =>
      if s.undoDue p then
        if s.fits (otherBank p.bank) then undoSwap p s
        else setPosition (s.wrappedBack p) (raiseBoth .swapRefused s)
      else setPosition (s.wrappedBack p) s

/-- The next backward move undoes a swap (R29, R40). -/
def State.undoes (s : State) : Bool :=
  match s.pick.position with
  | none => false
  | some p => s.undoDue p && s.fits (otherBank p.bank)

/-- Adds to the pick counter, which stops at its largest value (R31). -/
def countUp (n : Nat) (s : State) : State := { s with pick.counter := min (s.pick.counter + n) maxCount }

/-- Subtracts from the pick counter, which stops at 0 (R31). -/
def countDown (n : Nat) (s : State) : State := { s with pick.counter := s.pick.counter - n }

/-- Writes a pick-history record at the front, dropping the seventeenth, and clears the exchange note (R47–R49). -/
def addRecord (kind : RecordKind) (feeder : Option (Fin 8)) (substituted : Bool) (bound : Nat) (s : State) : State :=
  match s.pick.position with
  | none => s
  | some p =>
    let r : HistoryRecord :=
      { kind := kind, counter := s.pick.counter, position := p,
        system := ((s.article p.bank).stepAt p.line p.step).system, feeder := feeder, substituted := substituted,
        bindCount := bound, swapFlag := s.pick.exchangeNote }
    { s with pick := { s.pick with history := (r :: s.pick.history).take 16, exchangeNote := false } }

/-- The counter of a forward latch reaches the piece target (R33). -/
def PickEngine.pieceReached (p : PickEngine) : Bool :=
  p.target != 0 && min (p.counter + 1) maxCount == p.target && p.counter != p.target

/-- What the pick engine does at a forward latch in WEAVING: the move, the counter and the piece target, the record
(R27, R33). -/
def advance (decided : Option Bool) (kind : RecordKind) (feeder : Option (Fin 8)) (substituted : Bool) (bound : Nat)
    (s : State) : State :=
  let done := s.pick.pieceReached
  addRecord kind feeder substituted bound (raiseIf done .loom .pieceDone (countUp 1 (forwardMove decided s)))

/-- n forward moves of STEP FORWARD, each wrap taking its decision then and there (R43). -/
def forwardMoves : Nat → State → State
  | 0, s => s
  | n + 1, s => forwardMoves n (forwardMove none s)

/-- n backward moves of STEP BACK (R43). -/
def backwardMoves : Nat → State → State
  | 0, s => s
  | n + 1, s => backwardMoves n (backwardMove s)

end Sys2Proof.Machine
end

