-- ==== Sys2Proof/Machine/Frames.lean ====
section
/-! DEFINITION. The pending frame from its assembly start to its completion (R102–R112), the re-form's latch (R115), the
waiting re-form (R107), the discard (R108), and the memory arbiter (R163). -/

namespace Sys2Proof.Machine

/-! ## The memory arbiter -/

/-- The burst the frame builder waits for: the next one of the design line in its read stage (R110). -/
def FrameBuilder.wantsBurst (f : FrameBuilder) : Option Burst :=
  match f.slot with
  | .assembling d _ (.reading data) =>
    some
      { requester := .frame, address := burstAddress d.position.bank d.position.line (data.length / burstBytes),
        data := [], dropped := false }
  | _ => none

/-- The burst the load queue waits for: the next one of its oldest entry (R161). -/
def PatternStore.queueBurst (p : PatternStore) : Option Burst :=
  match p.queue with
  | e :: _ =>
    some
      { requester := .queue, address := burstAddress e.bank e.line e.written, data := burstData e.cells e.written,
        dropped := false }
  | [] => none

/-- The burst the readback buffer waits for while FILLING (R164). -/
def PatternStore.readbackBurst (p : PatternStore) : Option Burst :=
  match p.readback with
  | .filling job data =>
    some
      { requester := .readback, address := burstAddress job.bank job.line (data.length / burstBytes), data := [],
        dropped := false }
  | _ => none

/-- The request the arbiter grants next: the frame builder, else the load queue, else readback (R163). -/
def State.nextBurst (s : State) : Option Burst :=
  match s.frame.wantsBurst with
  | some b => some b
  | none =>
    match s.store.queueBurst with
    | some b => some b
    | none => s.store.readbackBurst

/-- With the port free, the arbiter grants the next burst (R163). -/
def grant (s : State) : State :=
  match s.store.port with
  | some _ => s
  | none => { s with store.port := s.nextBurst }

/-- A burst whose work has been abandoned (R163). -/
def Burst.abandonFor (r : Requester) (b : Burst) : Burst := if b.requester = r then { b with dropped := true } else b

/-- The work of a requester is abandoned: a burst of it in progress completes and its data is dropped (R163). -/
def dropBurst (r : Requester) (s : State) : State :=
  { s with store.port := s.store.port.map (Burst.abandonFor r) }

/-! ## Discard -/

/-- A slot holds a re-form. -/
def Slot.isReform : Slot → Bool
  | .assembling d _ _ => d.kind != .forward
  | _ => false

/-- A slot is EMPTY. -/
def Slot.isEmpty : Slot → Bool
  | .empty => true
  | _ => false

/-- Discards the pending frame: the slot EMPTY, its lifts and staged selection dropped, the re-forming flag cleared
where it was a re-form (R108). -/
def discard (s : State) : State :=
  dropBurst .frame
    { s with
      pick := { s.pick with reforming := s.pick.reforming && !s.frame.slot.isReform }
      frame := { s.frame with slot := .empty, staged := .empty } }

/-! ## Assembly -/

/-- The computation stage: the lifts, the bind count and the mark; then the shifting stage, whose staged selection is
filled here (R111, log 13). -/
def computeFrame (d : Descriptor) (v : GuardView) (cells : List Byte) (s : State) : State :=
  let t := s.harness.live
  let a := s.article d.position.bank
  { s with
    frame := { s.frame with
      slot := .assembling { d with bindCount := bindCount t a cells d v, violation := violates t a cells d v } v .shifting
      staged := selectionOf t (deliveredLift t a cells d v) } }

/-- The descriptor fixed at an assembly start (R52, R87, R88, R109). -/
def State.describe (s : State) (kind : FrameKind) (p : Position) (swap : Bool) (pickValue : Nat) : Descriptor :=
  let a := s.article p.bank
  let ws := (a.stepAt p.line p.step).system
  let r := resolveFeeder a.feeders[ws] (if swap then .primaryNext else s.frame.alternation[ws]) s.frame.available
  { kind := kind, level := s.frame.level, swap := swap, position := p, pickValue := pickValue, system := ws,
    entry := a.feeders[ws], resolved := r.1, substituted := r.2, bindCount := 0, violation := false }

/-- The start of a frame's assembly (R109): the descriptor, what its resolution raises, and the read stage, or for a
LEVEL-marked frame the computation at once (R69). -/
def beginFrame (kind : FrameKind) (p : Position) (swap : Bool) (pickValue : Nat) (s : State) : State :=
  let d := s.describe kind p swap pickValue
  let v : GuardView := { settings := s.frame.guard, committed := s.frame.committed }
  let s :=
    { s with
      pick := { s.pick with reforming := s.pick.reforming || kind != .forward }
      frame := { s.frame with slot := .assembling d v (.reading []) } }
  let s := raiseResolution (d.resolved, d.substituted) s
  if d.level then computeFrame d v [] s else grant s

/-- A forward frame whose lifts have all been shifted becomes READY and is reported to the tracker (R112, R19). -/
def completeForward (s : State) : State :=
  match s.frame.slot with
  | .assembling d _ .shifting =>
    if d.kind = .forward then { s with frame.slot := .ready d, shaft.slackCounter := 0 } else s
  | _ => s

/-- With no hooks the computation and shifting stages are empty and the frame completes at once (R111, log 25). -/
def State.noHooks (s : State) : Bool := s.harness.live.hooks == 0

/-- Starts a forward frame for a pick (R104, R31), which completes at once where nothing is left to do. -/
def beginForward (p : Position) (swap : Bool) (s : State) : State :=
  let s := beginFrame .forward p swap (min (s.pick.counter + 1) maxCount) s
  if s.noHooks then completeForward s else s

/-- Starts the forward frame for the pick after the current one, taking the swap decision at a wrap, when the engine is
WEAVING and the slot EMPTY (R35–R37, R104, R105). -/
def startForward (s : State) : State :=
  if s.pick.engine = .weaving ∧ s.frame.slot.isEmpty then
    match s.pick.position with
    | none => s
    | some p =>
      match (s.article p.bank).nextPick p.line p.step with
      | some (l, st) => beginForward { p with line := l, step := st } false s
      | none =>
        match s.wrapOutcome p.bank with
        | .plain => beginForward p.wrapped false s
        | .refused => beginForward p.wrapped false (refuseSwap (otherBank p.bank) s)
        | .swap => beginForward (Position.first (otherBank p.bank)) true s
  else s

/-! ## Re-forms -/

/-- What the latch of a re-form does before the next forward frame starts (R96, R115, R30). -/
def takeReform (d : Descriptor) (cause : Cause) (s : State) : State :=
  let s :=
    { s with
      frame := { s.frame with
        latched := s.frame.staged, staged := .empty, latchedDesc := some d, pickFeeder := .frame d.resolved,
        slot := .empty, committed := [] }
      pick := { s.pick with reforming := false } }
  let s := presentFeeder d.resolved d s
  let s := addRecord (.reform cause) d.resolved d.substituted 0 s
  restartStandstill (raise .loom .reformDone s)

/-- A re-form frame whose lifts have all been shifted is latched at once, and the next forward frame starts
(R105, R115). -/
def completeReform (s : State) : State :=
  match s.frame.slot with
  | .assembling d _ .shifting =>
    match d.kind with
    | .reform cause => startForward (takeReform d cause s)
    | .forward => s
  | _ => s

/-- Starts a re-form of the current position in place of whatever is pending (R106). -/
def beginReform (cause : Cause) (s : State) : State :=
  match s.pick.position with
  | none => s
  | some p =>
    let s := beginFrame (.reform cause) p false s.pick.counter (discard s)
    if s.noHooks then completeReform s else s

/-- An event that calls for a re-form: started at once while the shaft is REFERENCED, else owed with the newest cause
(R106, R107). -/
def startReform (cause : Cause) (s : State) : State :=
  if s.shaft.reference = .referenced then beginReform cause s else { s with frame.owed := some cause }

/-- A referencing starts the owed re-form (R4, R107). -/
def startOwed (s : State) : State :=
  match s.frame.owed with
  | none => s
  | some c => startReform c { s with frame.owed := none }

/-! ## Design-line bursts -/

/-- The data of a frame's burst: the read stage goes on, or after the last burst the lifts are computed, and with no
hooks the frame completes (R110, R111). -/
def takeFrameData (data : List Byte) (s : State) : State :=
  match s.frame.slot with
  | .assembling d v (.reading old) =>
    let cells := old ++ data
    if cells.length / burstBytes < lineBursts (s.article d.position.bank).width then
      { s with frame.slot := .assembling d v (.reading cells) }
    else
      let s := computeFrame d v cells s
      if s.noHooks then completeReform (completeForward s) else s
  | _ => s

end Sys2Proof.Machine
end

