-- ==== Sys2Proof/Machine/Ops.lean ====
section
/-! DEFINITION. The transaction of a link as one operation: the checks at the link, the reply, the refusal record
(R182–R188), the bytes of a transaction as they are clocked, and the byte the part sends at each place. -/

namespace Sys2Proof.Machine

/-- The answer of a command's rule (R184). -/
inductive Reply where
  | done (data : List Byte)
  | started
  | busy
  | refused (reason : Reason) (detail : Detail)
  deriving DecidableEq, Repr

/-- Reason codes (R200). -/
def Reason.code : Reason → Nat
  | .unknownCommand => 0x01
  | .wrongLink => 0x02
  | .length => 0x03
  | .range => 0x04
  | .moving => 0x05
  | .noArticle => 0x06
  | .bankState => 0x07
  | .bankInUse => 0x08
  | .tooLate => 0x09
  | .notClaimed => 0x0A
  | .claimed => 0x0B
  | .locked => 0x0C
  | .invalid => 0x0D
  | .width => 0x0E
  | .notLoaded => 0x0F
  | .unsynchronised => 0x10

/-- Cause codes of INVALID (R200). -/
def InvalidCause.code : InvalidCause → Nat
  | .beyondHooks => 0x01
  | .overlap => 0x02
  | .selvageUndefined => 0x03
  | .tooWide => 0x04

/-- Status codes (R200). -/
def Reply.status : Reply → Nat
  | .done _ => 0x01
  | .started => 0x02
  | .busy => 0x03
  | .refused _ _ => 0x04

/-- The reason byte: 00h except for REFUSED (R200). -/
def Reply.reasonByte : Reply → Nat
  | .refused r _ => r.code
  | _ => 0

/-- Reply data: a refusal carries data for INVALID and WIDTH only (R200). -/
def Reply.data : Reply → List Byte
  | .done d => d
  | .refused .invalid (.slotCause i c) => u8 i.val ++ u8 c.code
  | .refused .width (.number n) => u8 n
  | _ => []

/-- The reply frame: status, reason, reply length, reply data (R183, R200). -/
def Reply.frame (r : Reply) : List Byte := u8 r.status ++ u8 r.reasonByte ++ u16 r.data.length ++ r.data

/-- What a reply makes of the refusal record: REFUSED writes it, every other reply leaves it (R188). -/
def Reply.record (code : Byte) (old : Option RefusalEntry) : Reply → Option RefusalEntry
  | .refused reason detail => some { code := code, reason := reason, detail := detail }
  | _ => old

/-- A link answers a command it has taken: the transaction passes into turnaround with its reply formed (R182, R183). -/
def LinkState.answer (code : Byte) (r : Reply) (l : LinkState) : LinkState :=
  { l with
    phase := .turnaround, received := [], place := 0, reply := some r.frame, refusal := r.record code l.refusal }

/-- A link refuses an over-long length at once and discards from then on (R186). -/
def LinkState.refuseOverLong (code : Byte) (n : Nat) (l : LinkState) : LinkState :=
  let r : Reply := .refused .length (.number n)
  { l with
    phase := .discarding, received := [], place := 0, reply := some r.frame, refusal := r.record code l.refusal }

/-- Answers a command on a link. -/
def answer (k : Link) (code : Byte) (r : Reply) (s : State) : State := s.setLink k ((s.link k).answer code r)

/-- Refuses an over-long length on a link (R186). -/
def refuseOverLong (k : Link) (code : Byte) (n : Nat) (s : State) : State :=
  s.setLink k ((s.link k).refuseOverLong code n)

/-- A phase in which the bytes of a command are taken: not in turnaround, reply or discarding (R182, R183, R186). -/
def Phase.takes : Phase → Bool
  | .idle => true
  | .command => true
  | _ => false

/-- A link takes a command: no reset is applied (R198) and no transaction is past its command phase (log 8). -/
def State.listens (s : State) (k : Link) : Bool := !s.inReset && (s.link k).phase.takes

/-- The links that offer a command (R190). -/
inductive Offer where
  | both
  | loomOnly
  | designOnly
  deriving DecidableEq, Repr

/-- A command is offered on a link (R190). -/
def Offer.on : Offer → Link → Bool
  | .both, _ => true
  | .loomOnly, k => k == .loom
  | .designOnly, k => k == .design

/-- A complete command on a link: bytes of a link that is not listening are ignored; then the checks of R186 and R185
in their order; then the command's own rule, whose answer becomes the reply (R182). `lo` and `hi` are the shortest and
longest parameters of the command (spec/11). -/
def transact (k : Link) (code : Byte) (offer : Offer) (lo hi : Nat) (p : List Byte) (own : State → State × Reply)
    (s : State) : State :=
  if !s.listens k then s
  else if maxParams < p.length then refuseOverLong k code p.length s
  else if !offer.on k then answer k code (.refused .wrongLink .none) s
  else if p.length < lo ∨ hi < p.length then answer k code (.refused .length (.number p.length)) s
  else answer k code (own s).2 (own s).1

/-- A complete command whose code names none (R185). -/
def transactUnknown (k : Link) (code : Byte) (p : List Byte) (s : State) : State :=
  if !s.listens k then s
  else if maxParams < p.length then refuseOverLong k code p.length s
  else answer k code (.refused .unknownCommand .none) s

/-- A link between transactions (R187). -/
def LinkState.idle (l : LinkState) : LinkState := { l with phase := .idle, received := [], place := 0, reply := none }

/-- Release of a link's select: the bytes received are dropped, an unread reply is lost, the link is idle (R183,
R187). -/
def LinkState.release (l : LinkState) : LinkState := l.idle

/-- A link at the end of a reset: it discards until release where its select is still asserted (R198). -/
def LinkState.endReset (selected : Bool) (l : LinkState) : LinkState :=
  { l.idle with phase := if selected then .discarding else .idle }

/-- Select is asserted on an idle link: the command phase begins with no byte received (R182). -/
def LinkState.select (l : LinkState) : LinkState := if l.phase = .idle then { l.idle with phase := .command } else l

/-- A byte received in the command phase joins those before it (R182). -/
def LinkState.receive (b : Byte) (l : LinkState) : LinkState := { l with received := l.received ++ [b] }

/-- A byte clocked after the command phase is ignored and moves the transaction on by one place: the second
turnaround byte ends the turnaround (R182), reply and discarding last until release (R183, R186). -/
def LinkState.passByte (l : LinkState) : LinkState :=
  match l.phase with
  | .turnaround => { l with phase := if l.place = 0 then .turnaround else .reply, place := l.place + 1 }
  | .reply => { l with place := l.place + 1 }
  | .discarding => { l with place := l.place + 1 }
  | _ => l

/-- The byte the part sends at place `i` after the last byte of the command phase: two turnaround bytes of 0, then the
reply frame, then 0; after an over-long length the frame comes at once; 0 in the command phase, and while discarding
after a reset (R182, R183, R186, R198). -/
def LinkState.dataOut (l : LinkState) (i : Nat) : Byte :=
  match l.phase, l.reply with
  | .discarding, some f => f.getD i 0#8
  | .turnaround, some f => if i < 2 then 0#8 else f.getD (i - 2) 0#8
  | .reply, some f => if i < 2 then 0#8 else f.getD (i - 2) 0#8
  | _, _ => 0#8

/-- The byte on data-out while the next byte is clocked (R182, R183). -/
def LinkState.sends (l : LinkState) : Byte := l.dataOut l.place

/-! ## Answers of a command's own rule -/

/-- Taken, with no data. -/
def done (s : State) : State × Reply := (s, .done [])

/-- Refused for a reason without a detail; nothing is done. -/
def refuse (r : Reason) (s : State) : State × Reply := (s, .refused r .none)

/-- Refused with RANGE at a field (R188). -/
def rangeAt (f : Nat) (s : State) : State × Reply := (s, .refused .range (.number f))

/-- Refused with LENGTH at a field (R188). -/
def lengthAt (f : Nat) (s : State) : State × Reply := (s, .refused .length (.number f))

/-- Refused as a field failure says (R188). -/
def refuseField (e : FieldFailure) (s : State) : State × Reply := (s, .refused e.1 (.number e.2))

/-- Busy; nothing is done. -/
def busy (s : State) : State × Reply := (s, .busy)

end Sys2Proof.Machine
end

