-- ==== Sys2Proof/Machine/Claims.lean ====
section
/-! DEFINITION. The harness claim, its shadow table and the commit (R130–R141). -/

namespace Sys2Proof.Machine

/-- The shadow table of a link that holds the claim (R130). -/
def State.shadowOf (s : State) (k : Link) : Option HarnessTable :=
  match s.harness.claim with
  | some c => if c.owner = k then some c.shadow else none
  | none => none

/-- A lock is set (R140, R141). -/
def HarnessUnit.locked (h : HarnessUnit) : Bool := h.keep || h.fixed

/-- Writes the shadow table of a claim held by a link (R131–R133). -/
def setShadow (k : Link) (t : HarnessTable) (s : State) : State :=
  { s with harness.claim := some { owner := k, shadow := t } }

/-- An edit of the shadow: NOT CLAIMED unless the link holds the claim (R131–R133). -/
def editShadow (k : Link) (edit : HarnessTable → Except FieldFailure HarnessTable) (s : State) : State × Reply :=
  match s.shadowOf k with
  | none => refuse .notClaimed s
  | some t =>
    match edit t with
    | .error e => refuseField e s
    | .ok t' => done (setShadow k t' s)

/-- CLAIM HARNESS (R130). -/
def claimHarness (k : Link) (s : State) : State × Reply :=
  if (s.shadowOf k).isSome then done s
  else if s.harness.locked then refuse .locked s
  else if s.harness.claim.isSome then refuse .claimed s
  else done (setShadow k s.harness.live s)

/-- WRITE CHAIN on a table (R131). -/
def writeChain (p : List Byte) (t : HarnessTable) : Except FieldFailure HarnessTable :=
  match indexOf 8 (byteAt p 0) with
  | none => .error (.range, 0)
  | some c =>
    if 1536 < wordAt p 1 then .error (.range, 1)
    else
      let f := p.getD 3 0#8
      .ok
        { t with
          chains := t.chains.set c
            { length := wordAt p 1, enabled := f.getLsbD 0, ignoreRA := f.getLsbD 1, ignoreRB := f.getLsbD 2 } }

/-- WRITE SECTION on a table (R132). -/
def writeSection (p : List Byte) (t : HarnessTable) : Except FieldFailure HarnessTable :=
  match indexOf 16 (byteAt p 0) with
  | none => .error (.range, 0)
  | some i =>
    match sectionRecordOf p with
    | .error f => .error (.range, f)
    | .ok x => .ok { t with sections := t.sections.set i x }

/-- WRITE SELVAGE on a table (R133). -/
def writeSelvage (p : List Byte) (t : HarnessTable) : Except FieldFailure HarnessTable :=
  match indexOf 4 (byteAt p 0) with
  | none => .error (.range, 0)
  | some j =>
    match gridItemOf 16 1 (.length, 3) (byteAt p 1) (byteAt p 2) (p.drop 3) with
    | .error e => .error e
    | .ok g => .ok { t with selvages := t.selvages.set j g }

/-- The width of the weaving article, if one weaves (R135). -/
def State.weavingWidth (s : State) : Option Nat :=
  if s.weaves then s.pick.position.map fun p => (s.article p.bank).width else none

/-- The effects of a commit that is taken, in the order of R136. -/
def commitTable (k : Link) (t : HarnessTable) (s : State) : State :=
  let sel := if s.weaves then relayout t s.frame.latched else Selection.empty
  let s :=
    followDrivers
      { s with
        harness := { s.harness with live := t, claim := none }
        frame := { s.frame with committed := [], latched := sel } }
  raise (otherLink k) .claimFreed (if s.weaves then startReform .reform s else s)

/-- COMMIT HARNESS (R134–R136). -/
def commitHarness (k : Link) (s : State) : State × Reply :=
  match s.shadowOf k with
  | none => refuse .notClaimed s
  | some t =>
    if s.harness.locked then refuse .locked s
    else if s.weaves && s.shaft.motion != .still then refuse .moving s
    else
      match t.failure s.weavingWidth with
      | some (i, c) => (s, .refused .invalid (.slotCause i c))
      | none => done (commitTable k t s)

/-- Drops the shadow and releases the claim (R130). -/
def dropClaim (s : State) : State := { s with harness.claim := none }

/-- DISCARD HARNESS (R138). -/
def discardHarness (k : Link) (s : State) : State × Reply :=
  if (s.shadowOf k).isSome then done (raise (otherLink k) .claimFreed (dropClaim s)) else refuse .notClaimed s

/-- BREAK CLAIM (R139). -/
def breakClaim (s : State) : State :=
  if s.harness.claim.isSome then raise .design .claimFreed (dropClaim s) else s

end Sys2Proof.Machine
end

