-- ==== Sys2Proof/Config.lean ====
section
/-! DEFINITION. Values the manual leaves open, as constants without a body. -/

namespace Sys2Proof

/-- Byte `i` of the `n`-th STATUS reply, at a place where the manual states no value: the position while it is
absent, the kind of a frame while the slot is EMPTY, the fields of a refusal record that is empty or has no detail
(R203 lays the places out and gives no value for them). A free value: nothing is known of it. Log 10. -/
opaque Config.freeByte (n i : Nat) : Byte

end Sys2Proof
end

