-- ==== Sys2Proof/Machine/Replies.lean ====
section
/-! DEFINITION. The reply data of the read commands, byte by byte (R202–R204, the READ HARNESS and FETCH LINE layouts
of spec/11). -/

namespace Sys2Proof.Machine

/-! ## Codes (R202, R203) -/

/-- Reference state codes (R203). -/
def Reference.code : Reference → Nat
  | .unreferenced => 0
  | .referenced => 1
  | .lost => 2

/-- Loss cause codes (R203). -/
def LossCause.code : LossCause → Nat
  | .none => 0
  | .illegalStep => 1
  | .indexMismatch => 2

/-- Motion codes (R203). -/
def Motion.code : Motion → Nat
  | .still => 0
  | .forward => 1
  | .reverse => 2

/-- Engine codes (R203). -/
def Engine.code : Engine → Nat
  | .noArticle => 0
  | .weaving => 1
  | .unsynchronised => 2

/-- Slot state codes (R203). -/
def Slot.code : Slot → Nat
  | .empty => 0
  | .assembling _ _ _ => 1
  | .ready _ => 2

/-- Frame kind codes (R203). -/
def FrameKind.code : FrameKind → Nat
  | .forward => 0
  | .reform _ => 1

/-- Standstill stage codes (R203). -/
def StandstillStage.code : StandstillStage → Nat
  | .run => 0
  | .hold => 1
  | .release => 2

/-- Bank state codes (R203). -/
def BankState.code : BankState → Nat
  | .empty => 0
  | .opened => 1
  | .closing => 2
  | .ready => 3
  | .armed => 4
  | .weaving => 5
  | .retired => 6

/-- Readback state codes (R203). -/
def Readback.code : Readback → Nat
  | .empty => 0
  | .filling _ _ => 1
  | .full _ _ => 2

/-- Fault kind codes (R203). -/
def FaultKind.code : FaultKind → Nat
  | .lateFrame => 1
  | .weftUnavailable => 2
  | .shaftLost => 3
  | .floatLimit => 4

/-- Float-guard mode codes (R203). -/
def GuardMode.code : GuardMode → Nat
  | .off => 0
  | .bind => 1
  | .stop => 2

/-- Face codes (R199). -/
def Face.code : Face → Nat
  | .up => 0
  | .down => 1

/-- Code of a re-form cause as a history-record kind (R202). -/
def Cause.code : Cause → Nat
  | .reverse => 3
  | .step => 4
  | .set => 5
  | .swap => 6
  | .undo => 7
  | .reform => 8

/-- History-record kind codes (R202). -/
def RecordKind.code : RecordKind → Nat
  | .forward => 1
  | .stale => 2
  | .reform c => c.code

/-- Claim owner: none, loom, design (spec/11). -/
def ownerCode : Option Claim → Nat
  | none => 0
  | some c => if c.owner = .loom then 1 else 2

/-- Locks: bit 0 KEEP, bit 1 FIXED (R203). -/
def lockBits (h : HarnessUnit) : Nat := setNumber [h.keep, h.fixed]

/-! ## STATUS (R197, R203) -/

/-- A byte of the STATUS block at place `i` for which the manual states no value (log 10). -/
def unstated (s : State) (i : Nat) : List Byte := [Config.freeByte s.freeDraws i]

/-- Bytes 0–8: the shaft. -/
def statusShaft (s : State) : List Byte :=
  u16 s.shaft.angle ++ u8 s.shaft.reference.code ++ u8 s.shaft.cause.code ++ u8 s.shaft.motion.code ++
    u16 s.shaft.speed ++ u16 s.shaft.slack

/-- Bytes 10–15: weaving bank, line, step and repeat count; FFh for no bank (R199), the rest unstated (log 10). -/
def statusPosition (s : State) : List Byte :=
  match s.pick.position with
  | some p => u8 (bankCode p.bank) ++ u16 p.line ++ u8 p.step ++ u16 p.rep
  | none => u8 0xFF ++ unstated s 11 ++ unstated s 12 ++ unstated s 13 ++ unstated s 14 ++ unstated s 15

/-- Bytes 9–27: pick engine and faults. -/
def statusPick (s : State) : List Byte :=
  u8 s.pick.engine.code ++ statusPosition s ++ u8 (flag s.pick.reforming) ++ u32 s.pick.counter ++
    u32 s.pick.target ++ u8 (flag s.pick.fault.isSome) ++
    u8 (match s.pick.fault with
      | none => 0
      | some f => f.kind.code) ++
    u8 (flag s.pick.stopRequest)

/-- The descriptor of the frame in a slot. -/
def Slot.desc : Slot → Option Descriptor
  | .empty => none
  | .assembling d _ _ => some d
  | .ready d => some d

/-- Bytes 28–38: the pending frame, the waiting re-form, LEVEL. -/
def statusFrame (s : State) : List Byte :=
  u8 s.frame.slot.code ++
    (match s.frame.slot.desc with
      | some d =>
        u8 d.kind.code ++ u8 (bankCode d.position.bank) ++ u16 d.position.line ++ u8 d.position.step ++
          u16 d.position.rep ++ u8 (flag d.swap)
      | none => unstated s 29 ++ u8 0xFF ++ u16 0 ++ u8 0 ++ u16 0 ++ u8 0) ++
    u8 (flag s.frame.owed.isSome) ++ u8 (flag s.frame.level)

/-- Bytes 39–44: float guard and weft. -/
def statusWeft (s : State) : List Byte :=
  u8 s.frame.guard.mode.code ++ u8 s.frame.guard.up ++ u8 s.frame.guard.down ++
    u8 (setNumber s.frame.available.toList) ++ u8 (feederCode s.frame.output) ++ u8 (flag s.frame.gate)

/-- Bytes 45–59: harness and drive. -/
def statusHarness (s : State) : List Byte :=
  u8 (ownerCode s.harness.claim) ++ u8 (lockBits s.harness) ++ u16 s.harness.live.hooks ++
    u8 (setNumber [s.harness.ra, s.harness.rb]) ++ u8 s.harness.stage.code ++
    u8 (setNumber s.harness.driversOn.toList) ++
    (List.finRange 8).flatMap fun (c : Fin 8) => u8 (s.harness.levels[c]).toNat

/-- Bytes 60–63: pattern store. -/
def statusStore (s : State) : List Byte :=
  u8 s.store.bankA.state.code ++ u8 s.store.bankB.state.code ++ u8 s.store.queue.length ++ u8 s.store.readback.code

/-- Bytes 67–70: the detail, a number, or for INVALID the slot and the cause (R203). -/
def statusDetail (s : State) : Detail → List Byte
  | .none => unstated s 67 ++ unstated s 68 ++ unstated s 69 ++ unstated s 70
  | .number n => u32 n
  | .slotCause i c => u8 i.val ++ u8 c.code ++ unstated s 69 ++ unstated s 70

/-- Bytes 64–70: the refusal record. -/
def statusRefusal (k : Link) (s : State) : List Byte :=
  match (s.link k).refusal with
  | some r => u8 1 ++ [r.code] ++ u8 r.reason.code ++ statusDetail s r.detail
  | none => u8 0 ++ unstated s 65 ++ unstated s 66 ++ statusDetail s .none

/-- Bytes 71–76: flags, enables and note slots. -/
def statusLink (k : Link) (s : State) : List Byte :=
  u16 (s.link k).flags.toNat ++ u16 (s.link k).enables.toNat ++ u8 (flag (s.link k).noteSlot.isSome) ++
    u8 (flag (s.link (otherLink k)).noteSlot.isSome)

/-- The 77 bytes of STATUS on a link (R203). -/
def statusBytes (k : Link) (s : State) : List Byte :=
  statusShaft s ++ statusPick s ++ statusFrame s ++ statusWeft s ++ statusHarness s ++ statusStore s ++
    statusRefusal k s ++ statusLink k s

/-! ## The other read commands -/

/-- One record of READ HISTORY (R202). -/
def historyBytes (r : HistoryRecord) : List Byte :=
  u8 r.kind.code ++ u32 r.counter ++ u8 (bankCode r.position.bank) ++ u16 r.position.line ++ u8 r.position.step ++
    u16 r.position.rep ++ u8 r.system.val ++ u8 (feederCode r.feeder) ++ u8 (setNumber [r.substituted, r.swapFlag]) ++
    u16 r.bindCount

/-- READ HISTORY (R50, R202). -/
def readHistoryBytes (s : State) : List Byte :=
  u8 s.pick.history.length ++ s.pick.history.flatMap historyBytes

/-- The set of later kinds, the kind of code k at weight 2^(k−1) (R204). -/
def KindSet.number (x : KindSet) : Nat := setNumber [x.lateFrame, x.weftUnavailable, x.shaftLost, x.floatLimit]

/-- READ FAULT (R175, R204). -/
def readFaultBytes (s : State) : List Byte :=
  match s.pick.fault with
  | none => u8 0 ++ u8 0 ++ u8 0 ++ u32 0 ++ u8 0xFF ++ u16 0 ++ u8 0 ++ u16 0 ++ u16 0 ++ u8 0 ++ u8 0
  | some f =>
    u8 1 ++ u8 f.kind.code ++ u8 f.cause.code ++ u32 f.counter ++
      (match f.position with
        | some p => u8 (bankCode p.bank) ++ u16 p.line ++ u8 p.step ++ u16 p.rep
        | none => u8 0xFF ++ u16 0 ++ u8 0 ++ u16 0) ++
      u16 f.angle ++ u8 f.laterCount ++ u8 f.laterKinds.number

/-- Byte m of the lifts of READ FRAME from hook h (R204). -/
def liftByte (s : State) (h m : Nat) : Byte :=
  BitVec.ofNat 8 (setNumber ((List.range 8).map fun i => hookLift s.frame.latched s.harness.live (h + 8 * m + i)))

/-- A selection is latched (R118). -/
def Selection.latchedAny (x : Selection) : Bool := x.toList.any Option.isSome

/-- READ FRAME from hook h (R118, R204). -/
def readFrameBytes (h : Nat) (s : State) : List Byte :=
  u8 (flag (Selection.latchedAny s.frame.latched)) ++
    (match s.frame.latchedDesc with
      | some d =>
        u8 d.kind.code ++
          u8 (match d.kind with
            | .forward => 0
            | .reform c => c.code) ++
          u8 (flag d.level) ++ u8 (bankCode d.position.bank) ++ u16 d.position.line ++ u8 d.position.step ++
          u16 d.position.rep ++ u32 d.pickValue ++ u8 (feederCode d.resolved) ++ u16 d.bindCount
      | none => u8 0 ++ u8 0 ++ u8 0 ++ u8 0xFF ++ u16 0 ++ u8 0 ++ u16 0 ++ u32 0 ++ u8 0 ++ u16 0) ++
    u16 s.harness.live.hooks ++ (List.range 16).map (liftByte s h)

/-- The close result: code, first detail, second detail (R204). -/
def closeBytes : CloseResult → List Byte
  | .none => u8 0 ++ u16 0 ++ u8 0
  | .ok => u8 1 ++ u16 0 ++ u8 0
  | .linesMissing l => u8 2 ++ u16 l ++ u8 0
  | .schemeUndefined n => u8 3 ++ u16 n.val ++ u8 0
  | .weaveUndefined ws e => u8 4 ++ u16 ws.val ++ u8 e.val
  | .feederUndefined ws => u8 5 ++ u16 ws.val ++ u8 0

/-- The weaves defined, weave (ws, e) at weight 2^(4 ws + e) (R204). -/
def Article.weavesNumber (a : Article) : Nat :=
  setNumber ((List.finRange 8).flatMap fun (ws : Fin 8) =>
    (List.finRange 4).map fun (e : Fin 4) => ((a.weaves[ws])[e]).isSome)

/-- READ ARTICLE (R167, R204). -/
def readArticleBytes (b : Bank) : List Byte :=
  match b.state, b.record with
  | .empty, _ => u8 0 ++ List.replicate 17 0#8
  | st, none => u8 st.code ++ List.replicate 17 0#8
  | st, some a =>
    u8 st.code ++ closeBytes b.closeResult ++ u16 a.width ++ u16 a.height ++ u8 a.face.code ++ u16 a.linesWritten ++
      u8 (setNumber (a.schemes.toList.map Option.isSome)) ++ u32 a.weavesNumber ++
      u8 (setNumber (a.feeders.toList.map Option.isSome))

/-- READ EVENTS (R194, R204). -/
def readEventsBytes (l : LinkState) : List Byte := u16 l.flags.toNat ++ u16 l.enables.toNat

/-- A chain record (spec/11). -/
def chainBytes (t : HarnessTable) (c : Fin 8) : List Byte :=
  let e := t.chains[c]
  u8 c.val ++ u16 e.length ++ u8 (setNumber [e.enabled, e.ignoreRA, e.ignoreRB])

/-- Section mode codes (R199). -/
def SectionMode.code : SectionMode → Nat
  | .straight => 0
  | .point => 1

/-- A section record; fields a kind does not use read 0 (spec/11). -/
def sectionBytes (t : HarnessTable) (i : Fin 16) : List Byte :=
  match t.sections[i] with
  | none => u8 i.val ++ u8 0 ++ u16 0 ++ u16 0 ++ u16 0 ++ u16 0 ++ u8 0
  | some x =>
    match x.kind with
    | .figure c0 w m => u8 i.val ++ u8 1 ++ u16 x.first ++ u16 x.count ++ u16 c0 ++ u16 w ++ u8 m.code
    | .selvage j => u8 i.val ++ u8 2 ++ u16 x.first ++ u16 x.count ++ u16 0 ++ u16 0 ++ u8 j.val
    | .dead => u8 i.val ++ u8 3 ++ u16 x.first ++ u16 x.count ++ u16 0 ++ u16 0 ++ u8 0

/-- A selvage weave: number, width, height, grid (spec/11). -/
def selvageBytes (t : HarnessTable) (j : Fin 4) : List Byte :=
  match t.selvages[j] with
  | none => u8 j.val ++ u8 0 ++ u8 0
  | some g => u8 j.val ++ u8 g.width ++ u8 g.height ++ gridBytes g

/-- READ HARNESS of a table (R142, spec/11). -/
def readHarnessBytes (h : HarnessUnit) (t : HarnessTable) : List Byte :=
  u8 (ownerCode h.claim) ++ u8 (lockBits h) ++ u16 t.hooks ++ (List.finRange 8).flatMap (chainBytes t) ++
    (List.finRange 16).flatMap (sectionBytes t) ++ (List.finRange 4).flatMap (selvageBytes t)

/-- FETCH LINE (R166, spec/11). -/
def fetchLineBytes (job : ReadJob) (cells : List Byte) : List Byte :=
  u8 (bankCode job.bank) ++ u16 job.line ++ u8 job.scheme.val ++ cells

end Sys2Proof.Machine
end

