-- ==== Sys2Proof/Machine/CommonCommands.lean ====
section
/-! DEFINITION. The commands offered on both links (R190). -/

namespace Sys2Proof.Machine

/-- Marks the STATUS replies that have drawn free values (log 10). -/
def drawFree (s : State) : State := { s with freeDraws := s.freeDraws + 1 }

/-- STATUS (R197, R203). -/
def execStatus (k : Link) (p : List Byte) (s : State) : Host.Outcome State Fault Refusal :=
  .next (transact k 0x01 .both 0 0 p (fun s => (drawFree s, .done (statusBytes k s))) s)

/-- READ EVENTS (R194). -/
def execReadEvents (k : Link) (p : List Byte) (s : State) : Host.Outcome State Fault Refusal :=
  .next (transact k 0x02 .both 0 0 p (fun s => (s, .done (readEventsBytes (s.link k)))) s)

/-- Clears the marked flags of a link, emptying the note slot where NOTE is marked (R194, R196). -/
def clearEvents (k : Link) (marks : BitVec 16) (s : State) : State :=
  let l := (s.link k).setFlags ((s.link k).flags &&& ~~~marks) (s.link k).enables
  s.setLink k { l with noteSlot := if (marks &&& eventBit k .note) != 0#16 then none else l.noteSlot }

/-- CLEAR EVENTS (R194). -/
def execClearEvents (k : Link) (p : List Byte) (s : State) : Host.Outcome State Fault Refusal :=
  .next (transact k 0x03 .both 2 2 p (fun s => done (clearEvents k (flagsAt p 0) s)) s)

/-- Writes all sixteen enables of a link (R193). -/
def setEnables (k : Link) (e : BitVec 16) (s : State) : State :=
  s.setLink k ((s.link k).setFlags (s.link k).flags e)

/-- SET ENABLES (R193). -/
def execSetEnables (k : Link) (p : List Byte) (s : State) : Host.Outcome State Fault Refusal :=
  .next (transact k 0x04 .both 2 2 p (fun s => done (setEnables k (flagsAt p 0) s)) s)

/-- Stores a note in a link's slot and raises its NOTE flag (R195). -/
def storeNote (k : Link) (v : Byte) (s : State) : State :=
  raise k .note (s.setLink k { s.link k with noteSlot := some v })

/-- NOTE's own rule: BUSY while the other link's slot is full (R195). -/
def sendNote (k : Link) (v : Byte) (s : State) : State × Reply :=
  if (s.link (otherLink k)).noteSlot.isSome then busy s else done (storeNote (otherLink k) v s)

/-- NOTE (R195). -/
def execNote (k : Link) (p : List Byte) (s : State) : Host.Outcome State Fault Refusal :=
  .next (transact k 0x05 .both 1 1 p (sendNote k (p.getD 0 0#8)) s)

/-- READ NOTE's own rule: returns and empties the link's slot and clears its NOTE flag (R196, R204). -/
def readNote (k : Link) (s : State) : State × Reply :=
  match (s.link k).noteSlot with
  | none => (s, .done (u8 0 ++ u8 0))
  | some v => (clearEvents k (eventBit k .note) s, .done (u8 1 ++ [v]))

/-- READ NOTE (R196). -/
def execReadNote (k : Link) (p : List Byte) (s : State) : Host.Outcome State Fault Refusal :=
  .next (transact k 0x06 .both 0 0 p (readNote k) s)

/-- READ HISTORY (R50). -/
def execReadHistory (k : Link) (p : List Byte) (s : State) : Host.Outcome State Fault Refusal :=
  .next (transact k 0x07 .both 0 0 p (fun s => (s, .done (readHistoryBytes s))) s)

/-- READ FAULT (R175). -/
def execReadFault (k : Link) (p : List Byte) (s : State) : Host.Outcome State Fault Refusal :=
  .next (transact k 0x08 .both 0 0 p (fun s => (s, .done (readFaultBytes s))) s)

/-- CLAIM HARNESS (R130). -/
def execClaimHarness (k : Link) (p : List Byte) (s : State) : Host.Outcome State Fault Refusal :=
  .next (transact k 0x09 .both 0 0 p (claimHarness k) s)

/-- WRITE CHAIN (R131). -/
def execWriteChain (k : Link) (p : List Byte) (s : State) : Host.Outcome State Fault Refusal :=
  .next (transact k 0x0A .both 4 4 p (editShadow k (writeChain p)) s)

/-- WRITE SECTION (R132). -/
def execWriteSection (k : Link) (p : List Byte) (s : State) : Host.Outcome State Fault Refusal :=
  .next (transact k 0x0B .both 11 11 p (editShadow k (writeSection p)) s)

/-- WRITE SELVAGE (R133). -/
def execWriteSelvage (k : Link) (p : List Byte) (s : State) : Host.Outcome State Fault Refusal :=
  .next (transact k 0x0C .both 3 35 p (editShadow k (writeSelvage p)) s)

/-- COMMIT HARNESS (R134–R137). -/
def execCommitHarness (k : Link) (p : List Byte) (s : State) : Host.Outcome State Fault Refusal :=
  .next (transact k 0x0D .both 0 0 p (commitHarness k) s)

/-- DISCARD HARNESS (R138). -/
def execDiscardHarness (k : Link) (p : List Byte) (s : State) : Host.Outcome State Fault Refusal :=
  .next (transact k 0x0E .both 0 0 p (discardHarness k) s)

/-- READ HARNESS's own rule: LIVE always, SHADOW for the claim's holder (R142). -/
def readHarness (k : Link) (choice : Nat) (s : State) : State × Reply :=
  if choice = 0 then (s, .done (readHarnessBytes s.harness s.harness.live))
  else if choice = 1 then
    match s.shadowOf k with
    | none => refuse .notClaimed s
    | some t => (s, .done (readHarnessBytes s.harness t))
  else rangeAt 0 s

/-- READ HARNESS (R142). -/
def execReadHarness (k : Link) (p : List Byte) (s : State) : Host.Outcome State Fault Refusal :=
  .next (transact k 0x0F .both 1 1 p (readHarness k (byteAt p 0)) s)

/-- READ ARTICLE's own rule (R167). -/
def readArticle (p : List Byte) (s : State) : State × Reply :=
  match bankOf (byteAt p 0) with
  | none => rangeAt 0 s
  | some b => (s, .done (readArticleBytes (s.bank b)))

/-- READ ARTICLE (R167). -/
def execReadArticle (k : Link) (p : List Byte) (s : State) : Host.Outcome State Fault Refusal :=
  .next (transact k 0x10 .both 1 1 p (readArticle p) s)

end Sys2Proof.Machine
end

