-- ==== Sys2Proof/Machine/Banks.lean ====
section
/-! DEFINITION. The load side of the banks: opening, defining, queueing, closing, arming, installing, discarding and
reading back (R146–R166), and the bursts of the load queue and of readback. -/

namespace Sys2Proof.Machine

/-- A bank is OPEN or CLOSING. -/
def BankState.beingLoaded : BankState → Bool
  | .opened => true
  | .closing => true
  | _ => false

/-- The readback buffer names a bank (R165). -/
def Readback.names (b : BankId) : Readback → Bool
  | .empty => false
  | .filling job _ => job.bank == b
  | .full job _ => job.bank == b

/-- The readback buffer is FILLING. -/
def Readback.isFilling : Readback → Bool
  | .filling _ _ => true
  | _ => false

/-- Empties the readback buffer where it names a bank; a burst in progress completes and its data is dropped (R165). -/
def emptyReadback (b : BankId) (s : State) : State :=
  if s.store.readback.names b then dropBurst .readback { s with store.readback := .empty } else s

/-- A frame carrying the swap mark is pending (R36). -/
def State.swapPending (s : State) : Bool :=
  match s.frame.slot with
  | .empty => false
  | .assembling d _ _ => d.swap
  | .ready d => d.swap

/-- The width check of an install and of SWAP NOW, with the first section slot that reaches the width (R45, R152). -/
def State.widthFailure (s : State) (b : BankId) : Option (Fin 16) := s.harness.live.tooWide (s.article b).width

/-- A command that names a bank: a value naming neither is RANGE at the bank field, before any other check (spec/08, "Bank
states on the load side", R164, R167). That this holds of the DEFINE commands and WRITE LINE too, of which R155 says BANK
STATE unless the named bank is OPEN, is a DESIGN CHOICE (log 37). -/
def withBank (p : List Byte) (own : BankId → State → State × Reply) (s : State) : State × Reply :=
  match bankOf (byteAt p 0) with
  | none => rangeAt 0 s
  | some b => own b s

/-! ## Opening -/

/-- OPEN ARTICLE (R147). -/
def openArticle (p : List Byte) (b : BankId) (s : State) : State × Reply :=
  let st := (s.bank b).state
  if st.beingLoaded || st == .armed || st == .weaving || (s.bank (otherBank b)).state.beingLoaded then
    refuse .bankState s
  else if wordAt p 1 < 8 ∨ 8192 < wordAt p 1 then rangeAt 1 s
  else if wordAt p 3 < 1 ∨ 8192 < wordAt p 3 then rangeAt 2 s
  else
    match faceOf (byteAt p 5) with
    | none => rangeAt 3 s
    | some f =>
      done (emptyReadback b
        (s.setBank b
          { state := .opened, record := some (Article.fresh (wordAt p 1) (wordAt p 3) f), closeResult := .none }))

/-- REOPEN (R148). -/
def reopenBank (b : BankId) (s : State) : State × Reply :=
  let x := s.bank b
  if x.state == .empty || x.state.beingLoaded || x.state == .weaving || (s.bank (otherBank b)).state.beingLoaded then
    refuse .bankState s
  else if x.state == .armed && s.swapPending then refuse .bankInUse s
  else
    done (raiseIf (x.state == .armed) .design .disarmed
      (s.setBank b { (x.withRetained none) with state := .opened, closeResult := .none }))

/-! ## Defining -/

/-- A write of the record of an OPEN bank (R155). -/
def editRecord (b : BankId) (edit : Article → Except FieldFailure Article) (s : State) : State × Reply :=
  if (s.bank b).state = .opened then
    match edit (s.article b) with
    | .error e => refuseField e s
    | .ok a => done (s.setBank b { s.bank b with record := some a })
  else refuse .bankState s

/-- DEFINE SCHEME on a record (R156). -/
def defineScheme (p : List Byte) (a : Article) : Except FieldFailure Article :=
  match indexOf 8 (byteAt p 1) with
  | none => .error (.range, 1)
  | some n =>
    if 12 < byteAt p 2 then .error (.range, 2)
    else
      match stepsOf (byteAt p 2) (p.drop 3) 3 with
      | .error e => .error e
      | .ok l => .ok { a with schemes := a.schemes.set n (if l = [] then none else some l) }

/-- DEFINE WEAVE on a record (R157). Only with an empty grid are a width and height of 0 exempt from 1–24. -/
def defineWeave (p : List Byte) (a : Article) : Except FieldFailure Article :=
  match indexOf 8 (byteAt p 1) with
  | none => .error (.range, 1)
  | some ws =>
    match indexOf 4 (byteAt p 2) with
    | none => .error (.range, 2)
    | some e =>
      match gridItemOf 24 3 (.range, 3) (byteAt p 3) (byteAt p 4) (p.drop 5) with
      | .error x => .error x
      | .ok g => .ok { a with weaves := a.weaves.set ws ((a.weaves[ws]).set e g) }

/-- DEFINE FEEDERS on a record (R158). -/
def defineFeeders (p : List Byte) (a : Article) : Except FieldFailure Article :=
  match indexOf 8 (byteAt p 1) with
  | none => .error (.range, 1)
  | some ws =>
    match feederEntryOf (byteAt p 2) (byteAt p 3) (byteAt p 4) with
    | .error f => .error (.range, f)
    | .ok e => .ok { a with feeders := a.feeders.set ws e }

/-! ## Lines -/

/-- The readback buffer is FILLING with a line (R159). -/
def Readback.fills (b : BankId) (line : Nat) : Readback → Bool
  | .filling job _ => job.bank == b && job.line == line
  | _ => false

/-- WRITE LINE (R155, R159). -/
def writeLine (p : List Byte) (b : BankId) (s : State) : State × Reply :=
  if (s.bank b).state ≠ .opened then refuse .bankState s
  else
    let a := s.article b
    if a.height ≤ wordAt p 1 then rangeAt 1 s
    else
      match indexOf 8 (byteAt p 3) with
      | none => rangeAt 2 s
      | some n =>
        let cells := p.drop 4
        if cells.length ≠ lineBytes a.width then lengthAt 3 s
        else if s.store.queue.length = 4 then busy s
        else if s.store.readback.fills b (wordAt p 1) then busy s
        else
          let e : QueueEntry :=
            { bank := b, line := wordAt p 1, scheme := n, cells := maskCells a.width cells, written := 0 }
          done (grant { s with store.queue := s.store.queue ++ [e] })

/-- Runs the close validation of a CLOSING bank and raises CLOSE DONE (R150). -/
def finishClose (b : BankId) (s : State) : State := raise .design .closeDone (s.setBank b (s.bank b).closed)

/-- CLOSE ARTICLE (R149): with the queue empty the validation runs at once. -/
def closeArticle (b : BankId) (s : State) : State × Reply :=
  if (s.bank b).state ≠ .opened then refuse .bankState s
  else
    let s := s.setBank b ((s.bank b).withState .closing)
    (if s.store.queue = [] then finishClose b s else s, .started)

/-- The write of a queue entry has completed (R161): the line's table entry and written flag, the entry's removal,
QUEUE SPACE, and the close validation of a CLOSING bank whose queue is now empty. -/
def finishEntry (e : QueueEntry) (rest : List QueueEntry) (s : State) : State :=
  let x := s.bank e.bank
  let s1 := s.setBank e.bank
    { x with record := x.record.map fun a => { a with lines := a.lines.set e.line (some e.scheme) } }
  let s2 := { s1 with store.queue := rest }
  let s3 := raiseIf (s.store.queue.length == 4) .design .queueSpace s2
  if x.state = .closing ∧ rest = [] then finishClose e.bank s3 else s3

/-- A burst of the oldest entry has completed (R161). -/
def advanceQueue (s : State) : State :=
  match s.store.queue with
  | [] => s
  | e :: rest =>
    if e.written + 1 < (e.cells.length + 63) / 64 then
      { s with store.queue := { e with written := e.written + 1 } :: rest }
    else finishEntry e rest s

/-! ## Arming, install and discard -/

/-- Install of a READY bank with no bank weaving (R41, R103, R122, R152). -/
def install (b : BankId) (s : State) : State :=
  let s := s.setBank b ((s.bank b).withState .weaving)
  let engine := if s.shaft.reference = .lost then Engine.unsynchronised else Engine.weaving
  let s :=
    followStop
      { s with
        pick := { s.pick with
          engine := engine, position := some (Position.first b), reforming := false, exchangeNote := false }
        frame := { s.frame with
          alternation := freshAlternation, committed := [], latchedDesc := none, pickFeeder := .noFrame,
          latched := .empty } }
  startReform .reform (restartStandstill s)

/-- ARM (R151, R152). -/
def armBank (b : BankId) (s : State) : State × Reply :=
  if (s.bank b).state ≠ .ready then refuse .bankState s
  else if (s.bank (otherBank b)).state = .weaving then done (s.setBank b ((s.bank b).withState .armed))
  else
    match s.widthFailure b with
    | some i => (s, .refused .width (.number i.val))
    | none => done (install b s)

/-- DISARM (R153). -/
def disarmBank (b : BankId) (s : State) : State × Reply :=
  if (s.bank b).state ≠ .armed then refuse .bankState s
  else if s.swapPending then refuse .tooLate s
  else done (s.setBank b ((s.bank b).withState .ready))

/-- Drops every entry of the load queue, a burst in progress completing for nothing (R162). -/
def dropQueue (s : State) : State :=
  raiseIf (s.store.queue.length == 4) .design .queueSpace (dropBurst .queue { s with store.queue := [] })

/-- DISCARD BANK (R154). -/
def discardBank (b : BankId) (s : State) : State × Reply :=
  let st := (s.bank b).state
  if st == .weaving then refuse .bankState s
  else if st == .closing || (st == .armed && s.swapPending) then refuse .bankInUse s
  else if st == .empty then done s
  else
    let s1 := if st == .opened then dropQueue s else s
    done (emptyReadback b (s1.setBank b Bank.reset))

/-! ## Readback -/

/-- READ LINE (R164). -/
def readLine (p : List Byte) (b : BankId) (s : State) : State × Reply :=
  let a := s.article b
  if (s.bank b).state = .empty then refuse .bankState s
  else if a.height ≤ wordAt p 1 then rangeAt 1 s
  else if s.store.readback.isFilling then busy s
  else if s.store.queue ≠ [] then busy s
  else
    match a.schemeNumber (wordAt p 1) with
    | none => refuse .notLoaded s
    | some n =>
      (grant
        { s with
          store.readback := .filling { bank := b, line := wordAt p 1, scheme := n, width := a.width } [] },
        .started)

/-- The data of a readback burst: the fill goes on, or the buffer becomes FULL and LINE READY is raised (R164). -/
def takeReadbackData (data : List Byte) (s : State) : State :=
  match s.store.readback with
  | .filling job old =>
    let all := old ++ data
    if all.length / burstBytes < lineBursts job.width then { s with store.readback := .filling job all }
    else
      raise .design .lineReady { s with store.readback := .full job (all.take (lineBytes job.width)) }
  | _ => s

/-! ## Completed bursts -/

/-- The port becomes free (R163). -/
def freePort (s : State) : State := { s with store.port := none }

/-- A load-queue burst completes: its bytes are in pattern memory (R161, log 12), and the entry goes on unless it was
dropped (R162); the arbiter grants the next burst. -/
def finishQueueBurst (b : Burst) (s : State) : State :=
  let s := freePort { s with store.memory := writeBytes s.store.memory b.address b.data }
  grant (if b.dropped then s else advanceQueue s)

/-- A frame burst completes with its data (R110); the arbiter grants the next burst. -/
def finishFrameBurst (data : List Byte) (s : State) : State := grant (takeFrameData data (freePort s))

/-- A readback burst completes with its data (R164); the arbiter grants the next burst. -/
def finishReadbackBurst (data : List Byte) (s : State) : State := grant (takeReadbackData data (freePort s))

/-- The burst in progress for a requester. -/
def State.burstOf (s : State) (r : Requester) : Option Burst :=
  match s.store.port with
  | some b => if b.requester = r then some b else none
  | none => none

/-- A reading burst completes: abandoned work drops its data (R163), else the data goes to its requester; a byte that
nothing has written has no value (log 11). -/
def finishRead (b : Burst) (take : List Byte → State → State) (s : State) : Host.Outcome State Fault Refusal :=
  if b.dropped then .next (grant (freePort s))
  else
    match readBytes s.store.memory b.address burstBytes with
    | some data => .next (take data s)
    | none => .fault .unwrittenPatternMemory

end Sys2Proof.Machine
end

