-- ==== Sys2Proof/Machine/DesignCommands.lean ====
section
/-! DEFINITION. The commands offered on the design link alone (R190). -/

namespace Sys2Proof.Machine

/-- OPEN ARTICLE (R147). -/
def execOpenArticle (k : Link) (p : List Byte) (s : State) : Host.Outcome State Fault Refusal :=
  .next (transact k 0x40 .designOnly 6 6 p (withBank p (openArticle p)) s)

/-- REOPEN (R148). -/
def execReopen (k : Link) (p : List Byte) (s : State) : Host.Outcome State Fault Refusal :=
  .next (transact k 0x41 .designOnly 1 1 p (withBank p reopenBank) s)

/-- DEFINE SCHEME (R155, R156). -/
def execDefineScheme (k : Link) (p : List Byte) (s : State) : Host.Outcome State Fault Refusal :=
  .next (transact k 0x42 .designOnly 3 27 p (withBank p fun b => editRecord b (defineScheme p)) s)

/-- DEFINE WEAVE (R155, R157). -/
def execDefineWeave (k : Link) (p : List Byte) (s : State) : Host.Outcome State Fault Refusal :=
  .next (transact k 0x43 .designOnly 5 77 p (withBank p fun b => editRecord b (defineWeave p)) s)

/-- DEFINE FEEDERS (R155, R158). -/
def execDefineFeeders (k : Link) (p : List Byte) (s : State) : Host.Outcome State Fault Refusal :=
  .next (transact k 0x44 .designOnly 5 5 p (withBank p fun b => editRecord b (defineFeeders p)) s)

/-- WRITE LINE (R155, R159). -/
def execWriteLine (k : Link) (p : List Byte) (s : State) : Host.Outcome State Fault Refusal :=
  .next (transact k 0x45 .designOnly 6 2052 p (withBank p (writeLine p)) s)

/-- CLOSE ARTICLE (R149). -/
def execCloseArticle (k : Link) (p : List Byte) (s : State) : Host.Outcome State Fault Refusal :=
  .next (transact k 0x46 .designOnly 1 1 p (withBank p closeArticle) s)

/-- ARM (R151, R152). -/
def execArm (k : Link) (p : List Byte) (s : State) : Host.Outcome State Fault Refusal :=
  .next (transact k 0x47 .designOnly 1 1 p (withBank p armBank) s)

/-- DISARM (R153). -/
def execDisarm (k : Link) (p : List Byte) (s : State) : Host.Outcome State Fault Refusal :=
  .next (transact k 0x48 .designOnly 1 1 p (withBank p disarmBank) s)

/-- DISCARD BANK (R154). -/
def execDiscardBank (k : Link) (p : List Byte) (s : State) : Host.Outcome State Fault Refusal :=
  .next (transact k 0x49 .designOnly 1 1 p (withBank p discardBank) s)

/-- READ LINE (R164). -/
def execReadLine (k : Link) (p : List Byte) (s : State) : Host.Outcome State Fault Refusal :=
  .next (transact k 0x4A .designOnly 3 3 p (withBank p (readLine p)) s)

/-- FETCH LINE's own rule (R166). -/
def fetchLine (s : State) : State × Reply :=
  match s.store.readback with
  | .empty => refuse .notLoaded s
  | .filling _ _ => busy s
  | .full job cells => (s, .done (fetchLineBytes job cells))

/-- FETCH LINE (R166). -/
def execFetchLine (k : Link) (p : List Byte) (s : State) : Host.Outcome State Fault Refusal :=
  .next (transact k 0x4B .designOnly 0 0 p fetchLine s)

end Sys2Proof.Machine
end

