-- ==== Sys2Proof/Machine/FrameEvents.lean ====
section
/-! DEFINITION. The rows of assembly and of pattern memory: frame completions and completed bursts. A completion that
finds nothing to complete changes nothing (log 4). -/

namespace Sys2Proof.Machine

/-- FORWARD_FRAME_COMPLETE (R112): the forward frame whose lifts are being shifted becomes READY. -/
def execForwardFrameComplete (s : State) : Host.Outcome State Fault Refusal := .next (completeForward s)

/-- REFORM_COMPLETION (R115): the re-form whose lifts are being shifted is latched. -/
def execReformCompletion (s : State) : Host.Outcome State Fault Refusal := .next (completeReform s)

/-- FRAME_READ_BURST_DONE (R110). -/
def execFrameReadBurstDone (s : State) : Host.Outcome State Fault Refusal :=
  match s.burstOf .frame with
  | some b => finishRead b finishFrameBurst s
  | none => .next s

/-- LOAD_QUEUE_BURST_DONE (R161). -/
def execLoadQueueBurstDone (s : State) : Host.Outcome State Fault Refusal :=
  match s.burstOf .queue with
  | some b => .next (finishQueueBurst b s)
  | none => .next s

/-- READBACK_BURST_DONE (R164). -/
def execReadbackBurstDone (s : State) : Host.Outcome State Fault Refusal :=
  match s.burstOf .readback with
  | some b => finishRead b finishReadbackBurst s
  | none => .next s

end Sys2Proof.Machine
end

