-- ==== Sys2Proof/Machine/LinkEvents.lean ====
section
/-! DEFINITION. The rows of transactions that reach no block, and the release of select (R185–R187). -/

namespace Sys2Proof.Machine

/-- UNKNOWN_COMMAND (R185): a complete command whose code names no command. A code that names one is that command's
row (log 21). -/
def execUnknownCommand (k : Link) (code : Byte) (p : List Byte) (s : State) : Host.Outcome State Fault Refusal :=
  if namesCommand code then .refused .codeNamesCommand else .next (transactUnknown k code p s)

/-- OVER_LONG_LENGTH (R186): a declared length above 2,064 is refused at once and the rest is discarded. -/
def execOverLongLength (k : Link) (code : Byte) (n : BitVec 16) (s : State) : Host.Outcome State Fault Refusal :=
  if n.toNat ≤ maxParams then .refused .lengthNotOverLong
  else .next (if s.listens k then refuseOverLong k code n.toNat s else s)

/-- SELECT_RELEASED_EARLY (R187): release before the command is complete ends the transaction with no effect. -/
def execSelectReleasedEarly (k : Link) (s : State) : Host.Outcome State Fault Refusal :=
  .next (s.setLink k (s.link k).release)

/-- SELECT_RELEASED (R183, R187): the transaction ends, an unread reply is lost and the link is idle. -/
def execSelectReleased (k : Link) (s : State) : Host.Outcome State Fault Refusal :=
  .next (s.setLink k (s.link k).release)

end Sys2Proof.Machine
end

