-- ==== Sys2Proof/Machine/Tracker.lean ====
section
/-! DEFINITION. The shaft tracker: counts, latches, marks (R1–R11), referencing and loss (R4–R7, R12), speed and slack
(R17–R20), and what the other blocks do at a latch (R27, R29, R113, R114, R116). -/

namespace Sys2Proof.Machine

/-- The largest interval (R17). -/
def maxInterval : Nat := 16777215

/-- The largest slack (R19). -/
def maxSlack : Nat := 65535

/-! ## Speed and slack -/

/-- Cancels the speed measurement (R17). -/
def Shaft.cancel (x : Shaft) : Shaft := { x with measuring := false, speed := 0, intervalRunning := false }

/-- The speed of an interval of P microseconds (R18). -/
def speedOf (p : Nat) : Nat :=
  if p = maxInterval then 0 else if p = 0 then 4095 else min (60000000 / p) 4095

/-- The speed measurement at a forward latch (R17, R18). -/
def Shaft.measure (x : Shaft) : Shaft :=
  { x with
    speed := if x.measuring then speedOf x.interval else 0
    measuring := true, interval := 0, intervalRunning := true }

/-- The slack at a forward latch: the slack counter where the latch found a READY frame, else 0 (R19, log 15). -/
def Shaft.takeSlack (found : Bool) (x : Shaft) : Shaft := { x with slack := if found then x.slackCounter else 0 }

/-- MARGIN LOW is due: a latch that found a READY frame, the margin not 0 and the slack below it (R20). -/
def Shaft.marginLow (found : Bool) (x : Shaft) : Bool := found && x.margin != 0 && decide (x.slack < x.margin)

/-- A slot is READY. -/
def Slot.isReady : Slot → Bool
  | .ready _ => true
  | _ => false

/-- The latch finds a READY frame (R19, R113). -/
def State.findsReady (s : State) : Bool := s.pick.engine == .weaving && s.frame.slot.isReady

/-- The tracker's part of a forward latch (R9, R17–R20). -/
def latchTracker (s : State) : State :=
  let x := (s.shaft.measure).takeSlack s.findsReady
  raiseIf (x.marginLow s.findsReady) .loom .marginLow { s with shaft := x }

/-! ## Latches -/

/-- The float guard at the latch of a READY frame: cleared by a LEVEL mark or a swap, else committed in BIND and STOP
(R79, R80). -/
def latchFloat (d : Descriptor) (s : State) : State :=
  if d.level || d.swap then clearFloat s
  else if s.frame.guard.mode = .off then s
  else
    { s with
      frame.committed := commitRuns s.harness.live s.frame.guard s.frame.latched s.frame.committed }

/-- A forward latch in WEAVING takes the READY frame (R113, R27). -/
def takeReady (d : Descriptor) (s : State) : State :=
  let s :=
    { s with
      frame := { s.frame with
        latched := s.frame.staged, staged := .empty, latchedDesc := some d, pickFeeder := .frame d.resolved,
        slot := .empty } }
  let s := advance (some d.swap) .forward d.resolved d.substituted d.bindCount s
  let s := { s with frame.alternation := alternationAfter d s.frame.alternation }
  let s := latchFloat d s
  if d.violation then reportFault .floatLimit .none s else s

/-- The swap mark a LATE latch goes by: that of the forward frame it abandons; with none in hand the decision is
still to be taken (R35, R36, log 16). -/
def Slot.decided : Slot → Option Bool
  | .assembling d _ _ => if d.kind = .forward then some d.swap else none
  | .ready d => some d.swap
  | .empty => none

/-- A LATE forward latch in WEAVING (R114, R27). -/
def takeLate (s : State) : State :=
  let decided := s.frame.slot.decided
  let s := clearFloat { discard s with frame.pickFeeder := .noFrame }
  reportFault .lateFrame .none (advance decided .stale none false 0 s)

/-- What the pick engine and the frame builder do at a forward latch (R27, R113, R114). -/
def latchEngine (s : State) : State :=
  if s.pick.engine = .weaving then
    match s.frame.slot with
    | .ready d => takeReady d s
    | _ => takeLate s
  else s

/-- A forward latch: the tracker, the pick engine and frame builder, the harness unit (R9). -/
def forwardLatch (s : State) : State := restartStandstill (latchEngine (latchTracker s))

/-- A reverse latch: the measurement is cancelled, and in WEAVING the position steps back and its re-form starts
(R10, R29, R116). -/
def reverseLatch (s : State) : State :=
  let s := { s with shaft := s.shaft.cancel }
  if s.pick.engine = .weaving then
    let cause := if s.undoes then Cause.undo else Cause.reverse
    startReform cause (countDown 1 (backwardMove s))
  else s

/-! ## Counts and marks -/

/-- A mark is crossed by the forward count that brings d to its offset (R11). -/
def Shaft.crosses (x : Shaft) (mark : Nat) : Bool := x.offset == (mark : Int)

/-- The mark crossings of a forward count (R11): frame start, weft select, gate on and gate off (log 29). -/
def crossMarks (s : State) : State :=
  let t := s.shaft.timing
  let f := s.shaft.crosses t.frameStart
  let w := s.shaft.crosses t.weftSelect
  let on := s.shaft.crosses t.gateOn
  let off := s.shaft.crosses t.gateOff
  let s := if f then startForward s else s
  let s := if w then weftSelect s else s
  gateMarks on off s

/-- The next combination of the encoder lines in a direction (log 5). -/
def EncoderLines.next (l : EncoderLines) : Direction → EncoderLines
  | .forward => { a := !l.b, b := l.a }
  | .backward => { a := l.b, b := !l.a }

/-- The angle after a count (R1). -/
def angleAfter (a : Nat) : Direction → Nat
  | .forward => (a + 1) % 1024
  | .backward => (a + 1023) % 1024

/-- The motion state a count sets (R3). -/
def motionOf : Direction → Motion
  | .forward => .forward
  | .backward => .reverse

/-- Milliseconds as microseconds. -/
def millis (n : Nat) : Nat := n * 1000

/-- What every count does: angle, encoder lines, motion state and still timer; a backward count closes the weft gate;
the standstill timer restarts (R1, R3, R99, R122). -/
def countShaft (dir : Direction) (s : State) : State :=
  let s :=
    { s with
      shaft := { s.shaft with
        angle := angleAfter s.shaft.angle dir, lines := s.shaft.lines.next dir, motion := motionOf dir,
        stillTimer := some (millis s.shaft.timing.stillTime) }
      frame := { s.frame with gate := s.frame.gate && dir == .forward } }
  restartStandstill s

/-- A forward count on the cycle offset (R8, R9, R11). -/
def countForward (s : State) : State :=
  if s.shaft.offset + 1 = 1024 then crossMarks (forwardLatch { s with shaft.offset := 0 })
  else crossMarks { s with shaft.offset := s.shaft.offset + 1 }

/-- A backward count on the cycle offset (R8, R10). -/
def countBackward (s : State) : State :=
  let h : Int := s.shaft.timing.backOff
  if s.shaft.offset - 1 = -h then reverseLatch { s with shaft.offset := 1024 - h }
  else { s with shaft.offset := s.shaft.offset - 1 }

/-- One count of the shaft (R1, R7, R8). -/
def shaftCount (dir : Direction) (s : State) : State :=
  let s := countShaft dir s
  if s.shaft.reference = .referenced then
    match dir with
    | .forward => countForward s
    | .backward => countBackward s
  else s

/-! ## Reference -/

/-- Entry to LOST: the tracker (R12), the SHAFT LOST fault and the engine (R177), the feeder output and gate (R98,
R99), the pending frame and the owed re-form (R107), the drivers (R124). -/
def loseShaft (cause : LossCause) (s : State) : State :=
  let s := { s with shaft := { s.shaft.cancel with reference := .lost, cause := cause } }
  let s := weftOff (reportFault .shaftLost cause s)
  if s.pick.engine = .noArticle then followDrivers s
  else
    followDrivers (followStop
      { discard s with pick.engine := .unsynchronised, frame.owed := some .reform })

/-- (0 − A_L) mod 1,024, and with it the offset of any angle (R4, R16). -/
def Timing.offsetOf (t : Timing) (angle : Nat) : Int := ((angle : Int) - t.latchAngle) % 1024

/-- An angle lies within the tolerance of the index: in 0..t or in 1024−t..1023 (R5). -/
def nearIndex (t angle : Nat) : Bool := decide (angle ≤ t) || (decide (1024 - t ≤ angle) && decide (angle ≤ 1023))

/-- A corrected d taken into −h+1..1023 (R6). -/
def Shaft.adjust (x : Shaft) (d : Int) : Int :=
  if 1024 ≤ d then d - 1024 else if d ≤ -(x.timing.backOff : Int) then d + 1024 else d

/-- The correction of an angle that passes the check: −c for an angle c, +c for 1024 − c (R5). -/
def indexCorrection (t angle : Nat) : Int := if angle ≤ t then -(angle : Int) else 1024 - (angle : Int)

/-- The index arrives (R4, R5, R6, R7). -/
def takeIndex (s : State) : State :=
  match s.shaft.reference with
  | .unreferenced =>
    startOwed
      { s with
        shaft := { s.shaft with angle := 0, offset := s.shaft.timing.offsetOf 0, reference := .referenced } }
  | .referenced =>
    let t := s.shaft.timing.tolerance
    if nearIndex t s.shaft.angle then
      { s with
        shaft := { s.shaft with
          angle := 0, offset := s.shaft.adjust (s.shaft.offset + indexCorrection t s.shaft.angle) } }
    else loseShaft .indexMismatch s
  | .lost => s

/-! ## Time -/

/-- The still timer expires (R3). -/
def stillExpiry (s : State) : State :=
  { s with shaft := { s.shaft.cancel with motion := .still, stillTimer := none } }

/-- The two measuring counters count a microsecond and hold at their ends (R17, R19, log 14). -/
def Shaft.countMicrosecond (x : Shaft) : Shaft :=
  { x with
    interval := if x.intervalRunning then min (x.interval + 1) maxInterval else x.interval
    slackCounter := min (x.slackCounter + 1) maxSlack }

/-- The still timer counts a microsecond and expires at its end (R3). -/
def tickStill (s : State) : State :=
  match s.shaft.stillTimer with
  | none => s
  | some n => if n ≤ 1 then stillExpiry s else { s with shaft.stillTimer := some (n - 1) }

/-- The standstill timer counts a microsecond and expires at its end (R122). -/
def tickStandstill (s : State) : State :=
  match s.harness.timer with
  | .stopped | .stoppedByT2 => s
  | .toFirst n => if n ≤ 1 then firstExpiry s else { s with harness.timer := .toFirst (n - 1) }
  | .toSecond n => if n ≤ 1 then secondExpiry s else { s with harness.timer := .toSecond (n - 1) }

/-- One microsecond of the internal time base with nothing waiting (log 2). While a reset is applied time moves
nothing (log 19). -/
def tick (s : State) : State :=
  if s.inReset then s else tickStandstill (tickStill { s with shaft := s.shaft.countMicrosecond })

end Sys2Proof.Machine
end

