-- ==== Sys2Proof/Machine/LoomCommands.lean ====
section
/-! DEFINITION. The commands offered on the loom link alone (R190). -/

namespace Sys2Proof.Machine

/-! ## Faults and the position -/

/-- Empties the fault record; the stop request follows (R174). -/
def clearFault (s : State) : State := followStop { s with pick.fault := none }

/-- CLEAR FAULT (R174). -/
def execClearFault (k : Link) (p : List Byte) (s : State) : Host.Outcome State Fault Refusal :=
  .next (transact k 0x20 .loomOnly 0 0 p (fun s => done (clearFault s)) s)

/-- The first of the checks of R42 that fails, which are also those of UNLOAD (R46). -/
def State.moveRefusal (s : State) : Option Reason :=
  match s.pick.engine with
  | .noArticle => some .noArticle
  | .unsynchronised => some .unsynchronised
  | .weaving => if s.shaft.motion = .still then none else some .moving

/-- A command that moves the position has passed its checks and moved it: the speed measurement is cancelled and the
new position re-formed (R17, R42). -/
def finishMove (cause : Cause) (s : State) : State := startReform cause { s with shaft := s.shaft.cancel }

/-- The checks of R42 before a command's own rule. -/
def whenMovable (own : State → State × Reply) (s : State) : State × Reply :=
  match s.moveRefusal with
  | some r => refuse r s
  | none => own s

/-- STEP BACK n (R43, R31). -/
def stepBack (n : Nat) (s : State) : State := finishMove .step (countDown n (backwardMoves n s))

/-- STEP FORWARD n (R43, R31). -/
def stepForward (n : Nat) (s : State) : State := finishMove .step (countUp n (forwardMoves n s))

/-- BUSY while the re-forming flag is set (R23, R43). -/
def unlessReforming (own : State → State) (s : State) : State × Reply :=
  if s.pick.reforming then busy s else done (own s)

/-- STEP BACK (R42, R43). -/
def execStepBack (k : Link) (p : List Byte) (s : State) : Host.Outcome State Fault Refusal :=
  .next (transact k 0x21 .loomOnly 1 1 p (whenMovable (unlessReforming (stepBack (clamp 1 64 (byteAt p 0))))) s)

/-- STEP FORWARD (R42, R43). -/
def execStepForward (k : Link) (p : List Byte) (s : State) : Host.Outcome State Fault Refusal :=
  .next (transact k 0x22 .loomOnly 1 1 p (whenMovable (unlessReforming (stepForward (clamp 1 64 (byteAt p 0))))) s)

/-- SET POSITION's own rule (R44). -/
def movePosition (line step rep : Nat) (s : State) : State × Reply :=
  match s.pick.position with
  | none => refuse .noArticle s
  | some p =>
    if (s.article p.bank).height ≤ line then rangeAt 0 s
    else if (s.article p.bank).len line ≤ step then rangeAt 1 s
    else done (finishMove .set (setPosition { bank := p.bank, line := line, step := step, rep := rep } s))

/-- SET POSITION (R42, R44). -/
def execSetPosition (k : Link) (p : List Byte) (s : State) : Host.Outcome State Fault Refusal :=
  .next (transact k 0x23 .loomOnly 5 5 p (whenMovable (movePosition (wordAt p 0) (byteAt p 2) (wordAt p 3))) s)

/-- SET PICK COUNT (R32). -/
def execSetPickCount (k : Link) (p : List Byte) (s : State) : Host.Outcome State Fault Refusal :=
  .next (transact k 0x24 .loomOnly 4 4 p (fun s => done { s with pick.counter := longAt p 0 }) s)

/-- SET PIECE TARGET (R33). -/
def execSetPieceTarget (k : Link) (p : List Byte) (s : State) : Host.Outcome State Fault Refusal :=
  .next (transact k 0x25 .loomOnly 4 4 p (fun s => done { s with pick.target := longAt p 0 }) s)

/-- SWAP NOW's own rule (R45). -/
def swapNow (s : State) : State × Reply :=
  match s.pick.position with
  | none => refuse .noArticle s
  | some p =>
    let st := (s.bank (otherBank p.bank)).state
    if st ≠ .ready ∧ st ≠ .armed then refuse .bankState s
    else
      match s.widthFailure (otherBank p.bank) with
      | some i => (s, .refused .width (.number i.val))
      | none => done (finishMove .swap (commitSwap p s))

/-- SWAP NOW (R42, R45). -/
def execSwapNow (k : Link) (p : List Byte) (s : State) : Host.Outcome State Fault Refusal :=
  .next (transact k 0x26 .loomOnly 0 0 p (whenMovable swapNow) s)

/-- A bank after UNLOAD: WEAVING, ARMED and RETIRED become READY, and a retained position is dropped (R46). -/
def Bank.unloaded (b : Bank) : Bank :=
  match b.state with
  | .weaving => b.withState .ready
  | .armed => b.withState .ready
  | .retired => (b.withRetained none).withState .ready
  | _ => b

/-- The effects of UNLOAD (R46, R98, R99, R103, R107, R122). -/
def unloadArticle (s : State) : State :=
  let disarmed := s.store.bankA.state == .armed || s.store.bankB.state == .armed
  let s := discard s
  let s :=
    weftOff
      { s with
        store := { s.store with bankA := s.store.bankA.unloaded, bankB := s.store.bankB.unloaded }
        pick := { s.pick with position := none, exchangeNote := false, engine := .noArticle }
        frame := { s.frame with
          owed := none, latchedDesc := none, pickFeeder := .noFrame, latched := .empty } }
  raiseIf disarmed .design .disarmed (standstillOff (followStop s))

/-- UNLOAD (R46). -/
def execUnload (k : Link) (p : List Byte) (s : State) : Host.Outcome State Fault Refusal :=
  .next (transact k 0x27 .loomOnly 0 0 p (whenMovable fun s => done (unloadArticle s)) s)

/-- The effects of RESYNC in UNSYNCHRONISED (R13, R124, R178). -/
def resyncShaft (s : State) : State :=
  followDrivers (followStop
    { s with
      shaft := { s.shaft with reference := .unreferenced, cause := .none, speed := 0 }
      pick := { s.pick with engine := .weaving } })

/-- RESYNC's own rule (R178). -/
def resync (s : State) : State × Reply :=
  match s.pick.engine with
  | .noArticle => refuse .noArticle s
  | .weaving => done s
  | .unsynchronised => if s.shaft.motion = .still then done (resyncShaft s) else refuse .moving s

/-- RESYNC (R178). -/
def execResync (k : Link) (p : List Byte) (s : State) : Host.Outcome State Fault Refusal :=
  .next (transact k 0x28 .loomOnly 0 0 p resync s)

/-! ## Feeders and LEVEL -/

/-- A command that carries one feeder number, RANGE outside 1–8 (R86). -/
def withFeeder (n : Nat) (own : Fin 8 → State → State) (s : State) : State × Reply :=
  match feederOf n with
  | none => rangeAt 0 s
  | some f => done (own f s)

/-- FEEDER OUT (R86, R97). -/
def execFeederOut (k : Link) (p : List Byte) (s : State) : Host.Outcome State Fault Refusal :=
  .next (transact k 0x29 .loomOnly 1 1 p (withFeeder (byteAt p 0) takeFeederOut) s)

/-- FEEDER IN (R86). -/
def execFeederIn (k : Link) (p : List Byte) (s : State) : Host.Outcome State Fault Refusal :=
  .next (transact k 0x2A .loomOnly 1 1 p (withFeeder (byteAt p 0) bringFeederIn) s)

/-- LEVEL ON and LEVEL OFF: the flag, and while an article weaves a re-form or the owed cause (R68, R107). -/
def setLevel (on : Bool) (s : State) : State :=
  let s := { s with frame.level := on }
  if s.weaves then startReform .reform s else s

/-- LEVEL ON (R68). -/
def execLevelOn (k : Link) (p : List Byte) (s : State) : Host.Outcome State Fault Refusal :=
  .next (transact k 0x2B .loomOnly 0 0 p (fun s => done (setLevel true s)) s)

/-- LEVEL OFF (R68). -/
def execLevelOff (k : Link) (p : List Byte) (s : State) : Host.Outcome State Fault Refusal :=
  .next (transact k 0x2C .loomOnly 0 0 p (fun s => done (setLevel false s)) s)

/-! ## Settings -/

/-- The settings SET TIMING carries, after its clamps (R14, R199). -/
def timingOf (p : List Byte) : Timing :=
  { latchAngle := wordAt p 0, backOff := clamp 2 32 (byteAt p 2), frameStart := wordAt p 3, weftSelect := wordAt p 5,
    gateOn := wordAt p 7, gateOff := wordAt p 9, tolerance := byteAt p 11, stillTime := clamp 50 1000 (wordAt p 12) }

/-- A point of the shaft lies within the tolerance of the index; tested only while the tolerance is in range (R14, R15). -/
def Timing.near (t : Timing) (angle : Nat) : Bool := decide (t.tolerance ≤ 7) && nearIndex t.tolerance (angle % 1024)

/-- The first setting that fails a case of R15, by its number in SET TIMING's order (R14). -/
def Timing.failure (t : Timing) : Option Nat :=
  if 1023 < t.latchAngle ∨ t.near t.latchAngle then some 0
  else if t.near (t.latchAngle + 1024 - t.backOff) then some 1
  else if 1023 - t.backOff < t.frameStart ∨ t.near (t.latchAngle + t.frameStart) then some 2
  else if 1023 < t.weftSelect ∨ t.near (t.latchAngle + t.weftSelect) then some 3
  else if 1023 < t.gateOn ∨ t.near (t.latchAngle + t.gateOn) then some 4
  else if 1023 < t.gateOff ∨ t.near (t.latchAngle + t.gateOff) then some 5
  else if 7 < t.tolerance then some 6
  else none

/-- The effects of SET TIMING (R16). -/
def applyTiming (t : Timing) (s : State) : State :=
  { s with
    shaft := { s.shaft with
      timing := t
      offset := if s.shaft.reference = .referenced then t.offsetOf s.shaft.angle else s.shaft.offset } }

/-- SET TIMING's own rule (R14–R16). -/
def setTiming (t : Timing) (s : State) : State × Reply :=
  if s.shaft.motion ≠ .still then refuse .moving s
  else
    match t.failure with
    | some f => rangeAt f s
    | none => done (applyTiming t s)

/-- SET TIMING (R14–R16). -/
def execSetTiming (k : Link) (p : List Byte) (s : State) : Host.Outcome State Fault Refusal :=
  .next (transact k 0x2D .loomOnly 14 14 p (setTiming (timingOf p)) s)

/-- The first field of SET DRIVE from number `i` on that holds no slot 0–3, among `n` one-byte slot numbers (R121). -/
def badSlot (p : List Byte) : Nat → Nat → Option Nat
  | _, 0 => none
  | i, n + 1 => if 3 < byteAt p i then some i else badSlot p (i + 1) n

/-- A slot number whose range has been checked (R121). -/
def slotAt (p : List Byte) (i : Nat) : Fin 4 := Fin.ofNat 4 (byteAt p i)

/-- The settings SET DRIVE carries (R121): slot values by their lowest four bits, times clamped, or the number of the
first failing field. -/
def driveOf (p : List Byte) : Except Nat DriveSettings :=
  match badSlot p 4 9 with
  | some f => .error f
  | none =>
    match lossPolicyOf (byteAt p 17) with
    | none => .error 15
    | some x =>
      .ok
        { slots := Vector.ofFn fun i => BitVec.ofNat 4 (byteAt p i.val)
          runSlots := Vector.ofFn fun c => slotAt p (4 + c.val)
          standstillSlot := slotAt p 12, t1 := min (wordAt p 13) 255, t2 := min (wordAt p 15) 255, policy := x }

/-- SET DRIVE's own rule (R121, R123). -/
def setDrive (p : List Byte) (s : State) : State × Reply :=
  match driveOf p with
  | .error f => rangeAt f s
  | .ok d => done (applyDrive d s)

/-- SET DRIVE (R121, R123, R124). -/
def execSetDrive (k : Link) (p : List Byte) (s : State) : Host.Outcome State Fault Refusal :=
  .next (transact k 0x2E .loomOnly 18 18 p (setDrive p) s)

/-- A float limit after its clamp: 0 stays, 1 is taken as 2, above 64 as 64 (R73). -/
def floatLimit (n : Nat) : Nat := if n = 0 then 0 else clamp 2 64 n

/-- SET FLOAT GUARD's own rule (R73). -/
def setFloatGuard (mode up down : Nat) (s : State) : State × Reply :=
  match guardModeOf mode with
  | none => rangeAt 0 s
  | some m => done (clearFloat { s with frame.guard := { mode := m, up := floatLimit up, down := floatLimit down } })

/-- SET FLOAT GUARD (R73). -/
def execSetFloatGuard (k : Link) (p : List Byte) (s : State) : Host.Outcome State Fault Refusal :=
  .next (transact k 0x2F .loomOnly 3 3 p (setFloatGuard (byteAt p 0) (byteAt p 1) (byteAt p 2)) s)

/-- SET MARGIN (R20). -/
def execSetMargin (k : Link) (p : List Byte) (s : State) : Host.Outcome State Fault Refusal :=
  .next (transact k 0x30 .loomOnly 4 4 p (fun s => done { s with shaft.margin := min (longAt p 0) 65535 }) s)

/-! ## Locks and the latched frame -/

/-- LOCK KEEP (R140). -/
def execLockKeep (k : Link) (p : List Byte) (s : State) : Host.Outcome State Fault Refusal :=
  .next (transact k 0x31 .loomOnly 0 0 p (fun s => done { s with harness.keep := true }) s)

/-- UNLOCK (R140). -/
def execUnlock (k : Link) (p : List Byte) (s : State) : Host.Outcome State Fault Refusal :=
  .next (transact k 0x32 .loomOnly 0 0 p (fun s => done { s with harness.keep := false }) s)

/-- LOCK FIXED (R141). -/
def execLockFixed (k : Link) (p : List Byte) (s : State) : Host.Outcome State Fault Refusal :=
  .next (transact k 0x33 .loomOnly 0 0 p (fun s => done { s with harness.fixed := true }) s)

/-- BREAK CLAIM (R139). -/
def execBreakClaim (k : Link) (p : List Byte) (s : State) : Host.Outcome State Fault Refusal :=
  .next (transact k 0x34 .loomOnly 0 0 p (fun s => done (breakClaim s)) s)

/-- READ FRAME's own rule (R118). -/
def readFrame (h : Nat) (s : State) : State × Reply :=
  if 12287 < h then rangeAt 0 s else (s, .done (readFrameBytes h s))

/-- READ FRAME (R118). -/
def execReadFrame (k : Link) (p : List Byte) (s : State) : Host.Outcome State Fault Refusal :=
  .next (transact k 0x35 .loomOnly 2 2 p (readFrame (wordAt p 0)) s)

end Sys2Proof.Machine
end

