-- ==== Sys2Proof/Machine/Resets.lean ====
section
/-! DEFINITION. The resets and their end (R21, R51, R125, R143, R144, R169, R180, R198, R205). -/

namespace Sys2Proof.Machine

/-- What both resets leave, with the release inputs as the pins stand (R120). Pattern memory is not cleared (R145);
the encoder lines are taken when the reset ends (R21); the queues and the count of free values are the model's own. -/
def afterReset (ra rb : Bool) (s : State) : State :=
  { State.reset with
    shaft := { Shaft.reset with lines := s.shaft.lines }
    harness := { HarnessUnit.reset with ra := ra, rb := rb }
    store := { PatternStore.reset with memory := s.store.memory }
    inReset := true, freeDraws := s.freeDraws, pending := s.pending, wires := s.wires }

/-- The RESET pin keeps the FIXED lock, and with it the live harness table (R144). -/
def keepFixed (old s : State) : State :=
  if old.harness.fixed then { s with harness := { s.harness with fixed := true, live := old.harness.live } } else s

/-- RESET_PIN (R205): RESETN has been low for 10 µs and the reset is applied. -/
def execResetPin (ra rb : Bool) (s : State) : Host.Outcome State Fault Refusal :=
  .next (keepFixed s (afterReset ra rb s))

/-- POWER_ON_RESET (R205). -/
def execPowerOnReset (ra rb : Bool) (s : State) : Host.Outcome State Fault Refusal := .next (afterReset ra rb s)

/-- The end of a reset: the decoder takes the encoder lines as they stand (R21), and a link whose select is still
asserted discards until it is released (R198). -/
def endReset (lineA lineB loomSelect designSelect : Bool) (s : State) : State :=
  { s with
    inReset := false
    shaft.lines := { a := lineA, b := lineB }
    loom := s.loom.endReset loomSelect
    design := s.design.endReset designSelect }

/-- RESET_END (R21, R198): with no reset applied there is none to end (log 4). -/
def execResetEnd (lineA lineB loomSelect designSelect : Bool) (s : State) : Host.Outcome State Fault Refusal :=
  .next (if s.inReset then endReset lineA lineB loomSelect designSelect s else s)

end Sys2Proof.Machine
end

