-- ==== Sys2Proof/Machine/ShaftEvents.lean ====
section
/-! DEFINITION. The rows of the shaft, the still and standstill timers and the release inputs. While a reset is applied
none of them reaches a block; the release inputs are followed without an event (R120, R198, log 19). -/

namespace Sys2Proof.Machine

/-- ENCODER_COUNT (R1): one count of the shaft in a direction. -/
def execEncoderCount (dir : Direction) (s : State) : Host.Outcome State Fault Refusal :=
  .next (if s.inReset then s else shaftCount dir s)

/-- An illegal step (R2): both lines have changed; in REFERENCED the shaft is lost. -/
def illegalStep (s : State) : State :=
  let s := { s with shaft.lines := { a := !s.shaft.lines.a, b := !s.shaft.lines.b } }
  if s.shaft.reference = .referenced then loseShaft .illegalStep s else s

/-- ILLEGAL_STEP (R2). -/
def execIllegalStep (s : State) : Host.Outcome State Fault Refusal :=
  .next (if s.inReset then s else illegalStep s)

/-- INDEX (R4, R5). -/
def execIndex (s : State) : Host.Outcome State Fault Refusal := .next (if s.inReset then s else takeIndex s)

/-- STILL_TIMER_EXPIRY (R3): a stopped timer does not expire (log 3). -/
def execStillTimerExpiry (s : State) : Host.Outcome State Fault Refusal :=
  .next (if s.shaft.stillTimer.isSome then stillExpiry s else s)

/-- STANDSTILL_HOLD (R122): the expiry of a timer that runs toward the first expiry (log 3). -/
def execStandstillHold (s : State) : Host.Outcome State Fault Refusal :=
  .next
    (match s.harness.timer with
      | .toFirst _ => firstExpiry s
      | _ => s)

/-- STANDSTILL_RELEASE (R122): the expiry of a timer that runs toward the second expiry (log 3). -/
def execStandstillRelease (s : State) : Host.Outcome State Fault Refusal :=
  .next
    (match s.harness.timer with
      | .toSecond _ => secondExpiry s
      | _ => s)

/-- The release inputs follow the pins while a reset is applied, without an event (R120, R198). -/
def trackReleaseInput (i : ReleaseInput) (b : Bool) (s : State) : State :=
  match i with
  | .ra => { s with harness.ra := b }
  | .rb => { s with harness.rb := b }

/-- RELEASE_INPUT_CHANGE (R120): an input takes a level. -/
def execReleaseInputChange (input : ReleaseInput) (asserted : Bool) (s : State) : Host.Outcome State Fault Refusal :=
  .next (if s.inReset then trackReleaseInput input asserted s else setReleaseInput input asserted s)

end Sys2Proof.Machine
end

