-- ==== Sys2Proof/Machine/Dispatch.lean ====
section
/-! DEFINITION. One arm per constructor of Instr: the meaning of each row. -/

namespace Sys2Proof.Machine

/-- The effect of a command or event on everything but the queue. -/
def exec (i : Instr) (s : State) : Host.Outcome State Fault Refusal :=
  match i with
  | .encoderCount dir => Sys2Proof.Machine.execEncoderCount dir s
  | .illegalStep => Sys2Proof.Machine.execIllegalStep s
  | .index => Sys2Proof.Machine.execIndex s
  | .stillTimerExpiry => Sys2Proof.Machine.execStillTimerExpiry s
  | .standstillHold => Sys2Proof.Machine.execStandstillHold s
  | .standstillRelease => Sys2Proof.Machine.execStandstillRelease s
  | .releaseInputChange input asserted => Sys2Proof.Machine.execReleaseInputChange input asserted s
  | .forwardFrameComplete => Sys2Proof.Machine.execForwardFrameComplete s
  | .reformCompletion => Sys2Proof.Machine.execReformCompletion s
  | .frameReadBurstDone => Sys2Proof.Machine.execFrameReadBurstDone s
  | .loadQueueBurstDone => Sys2Proof.Machine.execLoadQueueBurstDone s
  | .readbackBurstDone => Sys2Proof.Machine.execReadbackBurstDone s
  | .unknownCommand k code p => Sys2Proof.Machine.execUnknownCommand k code p s
  | .overLongLength k code length => Sys2Proof.Machine.execOverLongLength k code length s
  | .selectReleasedEarly k => Sys2Proof.Machine.execSelectReleasedEarly k s
  | .status k p => Sys2Proof.Machine.execStatus k p s
  | .readEvents k p => Sys2Proof.Machine.execReadEvents k p s
  | .clearEvents k p => Sys2Proof.Machine.execClearEvents k p s
  | .setEnables k p => Sys2Proof.Machine.execSetEnables k p s
  | .note k p => Sys2Proof.Machine.execNote k p s
  | .readNote k p => Sys2Proof.Machine.execReadNote k p s
  | .readHistory k p => Sys2Proof.Machine.execReadHistory k p s
  | .readFault k p => Sys2Proof.Machine.execReadFault k p s
  | .claimHarness k p => Sys2Proof.Machine.execClaimHarness k p s
  | .writeChain k p => Sys2Proof.Machine.execWriteChain k p s
  | .writeSection k p => Sys2Proof.Machine.execWriteSection k p s
  | .writeSelvage k p => Sys2Proof.Machine.execWriteSelvage k p s
  | .commitHarness k p => Sys2Proof.Machine.execCommitHarness k p s
  | .discardHarness k p => Sys2Proof.Machine.execDiscardHarness k p s
  | .readHarness k p => Sys2Proof.Machine.execReadHarness k p s
  | .readArticle k p => Sys2Proof.Machine.execReadArticle k p s
  | .clearFault k p => Sys2Proof.Machine.execClearFault k p s
  | .stepBack k p => Sys2Proof.Machine.execStepBack k p s
  | .stepForward k p => Sys2Proof.Machine.execStepForward k p s
  | .setPosition k p => Sys2Proof.Machine.execSetPosition k p s
  | .setPickCount k p => Sys2Proof.Machine.execSetPickCount k p s
  | .setPieceTarget k p => Sys2Proof.Machine.execSetPieceTarget k p s
  | .swapNow k p => Sys2Proof.Machine.execSwapNow k p s
  | .unload k p => Sys2Proof.Machine.execUnload k p s
  | .resync k p => Sys2Proof.Machine.execResync k p s
  | .feederOut k p => Sys2Proof.Machine.execFeederOut k p s
  | .feederIn k p => Sys2Proof.Machine.execFeederIn k p s
  | .levelOn k p => Sys2Proof.Machine.execLevelOn k p s
  | .levelOff k p => Sys2Proof.Machine.execLevelOff k p s
  | .setTiming k p => Sys2Proof.Machine.execSetTiming k p s
  | .setDrive k p => Sys2Proof.Machine.execSetDrive k p s
  | .setFloatGuard k p => Sys2Proof.Machine.execSetFloatGuard k p s
  | .setMargin k p => Sys2Proof.Machine.execSetMargin k p s
  | .lockKeep k p => Sys2Proof.Machine.execLockKeep k p s
  | .unlock k p => Sys2Proof.Machine.execUnlock k p s
  | .lockFixed k p => Sys2Proof.Machine.execLockFixed k p s
  | .breakClaim k p => Sys2Proof.Machine.execBreakClaim k p s
  | .readFrame k p => Sys2Proof.Machine.execReadFrame k p s
  | .openArticle k p => Sys2Proof.Machine.execOpenArticle k p s
  | .reopen k p => Sys2Proof.Machine.execReopen k p s
  | .defineScheme k p => Sys2Proof.Machine.execDefineScheme k p s
  | .defineWeave k p => Sys2Proof.Machine.execDefineWeave k p s
  | .defineFeeders k p => Sys2Proof.Machine.execDefineFeeders k p s
  | .writeLine k p => Sys2Proof.Machine.execWriteLine k p s
  | .closeArticle k p => Sys2Proof.Machine.execCloseArticle k p s
  | .arm k p => Sys2Proof.Machine.execArm k p s
  | .disarm k p => Sys2Proof.Machine.execDisarm k p s
  | .discardBank k p => Sys2Proof.Machine.execDiscardBank k p s
  | .readLine k p => Sys2Proof.Machine.execReadLine k p s
  | .fetchLine k p => Sys2Proof.Machine.execFetchLine k p s
  | .resetPin ra rb => Sys2Proof.Machine.execResetPin ra rb s
  | .powerOnReset ra rb => Sys2Proof.Machine.execPowerOnReset ra rb s
  | .selectReleased k => Sys2Proof.Machine.execSelectReleased k s
  | .resetEnd lineA lineB loomSelect designSelect => Sys2Proof.Machine.execResetEnd lineA lineB loomSelect designSelect s

end Sys2Proof.Machine
end

