-- ==== Sys2Proof/Machine/Wires.lean ====
section
/-! DEFINITION. A transaction as its master clocks it: select, one byte for each eight clocks, release (R182, R183,
R186, R187). A command is taken, as its row, with the byte that completes it. -/

namespace Sys2Proof.Machine

/-- Select is asserted on a link (R182); while a reset is applied no transaction begins (R198). -/
def assertSelect (k : Link) (s : State) : State := if s.inReset then s else s.setLink k (s.link k).select

/-- A byte is clocked on a link. In the command phase it is received, and the byte that completes the command, or an
over-long length, presents its row, which is taken at that moment (R182, R186); after the command phase it is ignored
and the transaction moves on by one place (R183). While a reset is applied nothing is received (R198). -/
def clockByte (k : Link) (b : Byte) (s : State) : Host.Outcome State Fault Refusal :=
  if s.inReset then .next s
  else if (s.link k).phase = .command then
    let s := s.setLink k ((s.link k).receive b)
    match presentedRow k (s.link k).received with
    | some i => exec i s
    | none => .next s
  else .next (s.setLink k (s.link k).passByte)

/-- Select is released on a link: the row of an early release in the command phase, else that of a release (R187). -/
def releaseSelect (k : Link) (s : State) : Host.Outcome State Fault Refusal :=
  if (s.link k).phase = .command then exec (.selectReleasedEarly k) s else exec (.selectReleased k) s

/-- What the lines of a link bring (log 9). -/
def takeWire (w : Wire) (s : State) : Host.Outcome State Fault Refusal :=
  match w with
  | .select k => .next (assertSelect k s)
  | .clock k b => clockByte k b s
  | .release k => releaseSelect k s

end Sys2Proof.Machine
end

