-- ==== Sys2Proof/Machine/Step.lean ====
section
/-! DEFINITION. One step of the block: the command at the front of the queue, else what waits on the lines of the links,
else a microsecond of time. -/

namespace Sys2Proof.Machine

/-- Takes the command at the front of the queue and runs it with the rest waiting (log 1). On an empty queue it takes
what waits on the lines of the links (log 9), and with nothing there one microsecond of the internal time base passes
(log 2). -/
def step (s : State) : Host.Outcome State Fault Refusal :=
  match s.pending with
  | c :: rest => exec c { s with pending := rest }
  | [] =>
    match s.wires with
    | w :: rest => takeWire w { s with wires := rest }
    | [] => .next (tick s)

/-- The state with the command a word spells put at the front of its queue; no word spells one (log 24). -/
def State.withFetchWord (s : State) (nbits w : Nat) : State :=
  match decodeTableWord nbits w with
  | none => s
  | some c => { s with pending := c :: s.pending }

end Sys2Proof.Machine
end

