-- ==== Sys2Proof/Safety.lean ====
section
/-! DEFINITION. What holds of the part in every run, in the terms the statements use: the laws of the shaft, the
engine and the banks, the float guard, the links and the outputs, each as a proposition about one state. -/

namespace Sys2Proof.Machine

/-! ## Outputs -/

/-- The stop request is asserted exactly while the record holds a fault or the engine is UNSYNCHRONISED (R173). -/
abbrev State.StopFollows (s : State) : Prop :=
  s.pick.stopRequest = (s.pick.fault.isSome || s.pick.engine == .unsynchronised)

/-- Each attention output is asserted exactly while a flag of its link is set and enabled (R193). -/
abbrev State.AttentionFollows (s : State) : Prop :=
  ∀ k : Link, k = .loom ∨ k = .design → (s.link k).attention = (((s.link k).flags &&& (s.link k).enables) != 0#16)

/-- The six conditions of R119 for a chain's drivers: an article weaves; the chain is enabled with a length that is not
0; neither release input is asserted unmasked; the standstill stage is not RELEASE; no loss release is in force. -/
abbrev State.DriverConditions (s : State) (c : Fin 8) : Prop :=
  (s.pick.engine = .weaving ∨ s.pick.engine = .unsynchronised) ∧
    ((s.harness.live.chains[c]).enabled = true ∧ (s.harness.live.chains[c]).length ≠ 0) ∧
    (s.harness.ra = true → (s.harness.live.chains[c]).ignoreRA = true) ∧
    (s.harness.rb = true → (s.harness.live.chains[c]).ignoreRB = true) ∧ s.harness.stage ≠ .release ∧
    ¬ (s.shaft.reference = .lost ∧ s.harness.drive.policy = .release)

/-- Each chain's drivers are ON exactly while the conditions of R119 hold, and its drive level is the value of its run
slot in RUN and of the standstill slot in HOLD and RELEASE (R121). -/
abbrev State.DriversFollow (s : State) : Prop :=
  ∀ c : Fin 8, (s.harness.driversOn[c] = true ↔ s.DriverConditions c) ∧
    s.harness.levels[c] = s.harness.drive.slots[
      if s.harness.stage = .run then s.harness.drive.runSlots[c] else s.harness.drive.standstillSlot]

/-- The feeder output never names a feeder marked unavailable (R94). -/
abbrev State.OutputAvailable (s : State) : Prop :=
  ∀ f : Fin 8, s.frame.output = some f → s.frame.available[f] = true

/-! ## Links -/

/-- The flags no event of a link is assigned to (R191). -/
def unassignedFlags : Link → BitVec 16
  | .loom => 0xC000#16
  | .design => 0xF800#16

/-- A link's note slot is full exactly while its NOTE flag is set, and its unassigned flags are clear (R192, R196). -/
abbrev LinkState.FlagsSound (k : Link) (l : LinkState) : Prop :=
  l.noteSlot.isSome = ((l.flags &&& eventBit k .note) != 0#16) ∧ l.flags &&& unassignedFlags k = 0#16

/-- Both links' flags are sound. -/
abbrev State.FlagsSound (s : State) : Prop := s.loom.FlagsSound .loom ∧ s.design.FlagsSound .design

/-! ## Shaft -/

/-- The timing settings lie in the ranges of SET TIMING (the table of spec/01, R14, R15). -/
abbrev Timing.InRange (t : Timing) : Prop :=
  t.latchAngle ≤ 1023 ∧ 2 ≤ t.backOff ∧ t.backOff ≤ 32 ∧ t.frameStart + t.backOff ≤ 1023 ∧ t.weftSelect ≤ 1023 ∧
    t.gateOn ≤ 1023 ∧ t.gateOff ≤ 1023 ∧ t.tolerance ≤ 7 ∧ 50 ≤ t.stillTime ∧ t.stillTime ≤ 1000

/-- An angle, taken modulo 1,024, lies within t of angle 0: in 0..t or in 1024−t..1023 (R15). -/
abbrev inWindow (t angle : Nat) : Prop := angle % 1024 ≤ t ∨ 1024 ≤ angle % 1024 + t

/-- No case of R15 applies to the settings. -/
abbrev Timing.Acceptable (t : Timing) : Prop :=
  t.latchAngle ≤ 1023 ∧ t.weftSelect ≤ 1023 ∧ t.gateOn ≤ 1023 ∧ t.gateOff ≤ 1023 ∧ t.tolerance ≤ 7 ∧
    t.frameStart + t.backOff ≤ 1023 ∧ ¬ inWindow t.tolerance t.latchAngle ∧
    ¬ inWindow t.tolerance (t.latchAngle + 1024 - t.backOff) ∧ ¬ inWindow t.tolerance (t.latchAngle + t.frameStart) ∧
    ¬ inWindow t.tolerance (t.latchAngle + t.weftSelect) ∧ ¬ inWindow t.tolerance (t.latchAngle + t.gateOn) ∧
    ¬ inWindow t.tolerance (t.latchAngle + t.gateOff)

/-- The tracker's values lie in the ranges of the table that opens spec/01; d in −h+1..1023 while it is counted (R8). -/
abbrev Shaft.InRange (x : Shaft) : Prop :=
  x.angle ≤ 1023 ∧ x.timing.InRange ∧ x.speed ≤ 4095 ∧ x.interval ≤ 16777215 ∧ x.slack ≤ 65535 ∧
    x.slackCounter ≤ 65535 ∧ x.margin ≤ 65535 ∧ (x.stillTimer = none ↔ x.motion = .still) ∧
    (x.cause = .none ↔ x.reference ≠ .lost) ∧
    (x.reference = .referenced → -(x.timing.backOff : Int) < x.offset ∧ x.offset ≤ 1023)

/-! ## Float guard -/

/-- A limit is 0 or 2–64 (R72). -/
abbrev limitInRange (n : Nat) : Prop := n = 0 ∨ (2 ≤ n ∧ n ≤ 64)

/-- A committed state: NONE goes with a run of 0, UP and DOWN with a run from 1 to the cap of their sense (R74, R79). -/
abbrev FloatRun.InRange (g : GuardSettings) (r : FloatRun) : Prop :=
  r.run ≤ 64 ∧ (r.sense = .none ↔ r.run = 0) ∧ (r.sense = .up → g.up ≠ 0 → r.run ≤ g.up) ∧
    (r.sense = .down → g.down ≠ 0 → r.run ≤ g.down)

/-- The float guard's settings and committed runs lie in their ranges (R72, R74). -/
abbrev FrameBuilder.FloatInRange (f : FrameBuilder) : Prop :=
  limitInRange f.guard.up ∧ limitInRange f.guard.down ∧ ∀ r ∈ f.committed, r.InRange f.guard

/-- A lift is at limit for its hook: the limit of its sense is not 0, and the committed state of the hook is that sense
with a run of that limit (R76). -/
abbrev GuardView.AtLimit (v : GuardView) (h : Nat) (lift : Bool) : Prop :=
  (match lift with
    | true => v.settings.up
    | false => v.settings.down) ≠ 0 ∧
    (v.committed.getD h { sense := .none, run := 0 }).sense = (if lift then .up else .down) ∧
    (v.committed.getD h { sense := .none, run := 0 }).run =
      (match lift with
        | true => v.settings.up
        | false => v.settings.down)

/-! ## Engine and banks -/

/-- A bank state in which the bank holds a record (R146). -/
def BankState.holdsArticle : BankState → Bool
  | .empty => false
  | _ => true

/-- A retained position is kept by a RETIRED bank and by no other (R39). -/
abbrev Bank.RetainedSound (b : Bank) : Prop := (b.record.bind (·.retained)).isSome = (b.state == .retired)

/-- A bank's record is present exactly while the bank is not EMPTY (R146). -/
abbrev Bank.RecordSound (b : Bank) : Prop := b.record.isSome = b.state.holdsArticle

/-- The bank states agree with each other: at most one WEAVING, ARMED and RETIRED only beside a WEAVING bank (R39), at
most one OPEN or CLOSING (R147). -/
abbrev State.BanksAgree (s : State) : Prop :=
  ¬ ((s.bank .bankA).state = .weaving ∧ (s.bank .bankB).state = .weaving) ∧
    ((s.bank .bankA).state = .armed ∨ (s.bank .bankA).state = .retired → (s.bank .bankB).state = .weaving) ∧
    ((s.bank .bankB).state = .armed ∨ (s.bank .bankB).state = .retired → (s.bank .bankA).state = .weaving) ∧
    ¬ ((s.bank .bankA).state.beingLoaded = true ∧ (s.bank .bankB).state.beingLoaded = true) ∧
    (s.bank .bankA).RecordSound ∧ (s.bank .bankB).RecordSound ∧ (s.bank .bankA).RetainedSound ∧
    (s.bank .bankB).RetainedSound

/-- The load queue holds at most four entries, all of the bank that is OPEN or CLOSING (R160), and a CLOSING bank
still waits for one of them (R149). -/
abbrev State.QueueSound (s : State) : Prop :=
  s.store.queue.length ≤ 4 ∧ (∀ e ∈ s.store.queue, (s.bank e.bank).state.beingLoaded = true) ∧
    ((s.bank .bankA).state = .closing ∨ (s.bank .bankB).state = .closing → s.store.queue ≠ [])

/-- The engine agrees with the banks: the position is present exactly while an article weaves and names the WEAVING
bank (R22, R23); UNSYNCHRONISED goes with LOST (R177); the history holds at most sixteen records (R47). -/
abbrev State.EngineSound (s : State) : Prop :=
  (s.pick.engine = .noArticle ↔ s.pick.position = none) ∧
    (∀ p ∈ s.pick.position, (s.bank p.bank).state = .weaving) ∧
    (s.pick.position = none → (s.bank .bankA).state ≠ .weaving ∧ (s.bank .bankB).state ≠ .weaving) ∧
    (s.pick.engine = .unsynchronised → s.shaft.reference = .lost) ∧ s.pick.history.length ≤ 16

/-- The pending frame agrees with the engine: a frame is pending only while WEAVING and REFERENCED (R70, R107); the
re-forming flag is set exactly while a re-form is pending (R23); a re-form is owed exactly while an article weaves and
the shaft is not REFERENCED (R107, R177); a swap-marked frame is pending only while the other bank is ARMED (R36). -/
abbrev State.FrameSound (s : State) : Prop :=
  (s.frame.slot = .empty ∨ (s.pick.engine = .weaving ∧ s.shaft.reference = .referenced)) ∧
    s.pick.reforming = s.frame.slot.isReform ∧
    (s.frame.owed.isSome = true ↔ s.pick.engine ≠ .noArticle ∧ s.shaft.reference ≠ .referenced) ∧
    (s.swapPending = true → ∀ p ∈ s.pick.position, (s.bank (otherBank p.bank)).state = .armed)

/-- The law of the engine, the banks, the queue and the pending frame. -/
abbrev State.EngineLaw (s : State) : Prop := s.BanksAgree ∧ s.QueueSound ∧ s.EngineSound ∧ s.FrameSound

/-! ## The weaving article -/

/-- Every FIGURE section of the live harness lies below the width of the weaving article, and of the ARMED article a
swap-marked frame has been built from (R60, R136). -/
abbrev State.WidthLaw (s : State) : Prop :=
  ∀ p ∈ s.pick.position, s.fits p.bank = true ∧ (s.swapPending = true → s.fits (otherBank p.bank) = true)

/-- A pick that an article holds: its line below the height and its step below the line's length (R23). -/
abbrev Article.Holds (a : Article) (line step : Nat) : Prop := line < a.height ∧ step < a.len line

/-- An article that has passed the close validation (R150), with a line table of its height and no empty scheme. -/
abbrev Article.Complete (a : Article) : Prop :=
  1 ≤ a.height ∧ a.lines.length = a.height ∧ a.validate = .ok ∧ (∀ n : Fin 8, a.schemes[n] ≠ some []) ∧
    ∀ r ∈ a.retained, a.Holds r.line r.step

/-- A record being loaded: a line table of its height and no empty scheme (R146, R156). -/
abbrev Article.WellShaped (a : Article) : Prop :=
  1 ≤ a.height ∧ a.lines.length = a.height ∧ ∀ n : Fin 8, a.schemes[n] ≠ some []

/-- A bank's record is well shaped, and complete from READY on (R150). -/
abbrev Bank.ArticleSound (b : Bank) : Prop :=
  ∀ a ∈ b.record, a.WellShaped ∧ (b.state.beingLoaded = false → a.Complete)

/-- The records are sound, and the position names a pick of its bank's article (R23, R24). -/
abbrev State.PositionLaw (s : State) : Prop :=
  (s.bank .bankA).ArticleSound ∧ (s.bank .bankB).ArticleSound ∧
    (∀ p ∈ s.pick.position, (s.article p.bank).Holds p.line p.step)

/-! ## The live harness table -/

/-- A used section of a table lies within its hooks, shares no hook with a lower slot, and names a defined selvage weave
where it is SELVAGE (R128). -/
abbrev HarnessTable.SlotSound (t : HarnessTable) (i : Fin 16) : Prop :=
  ∀ x ∈ t.sections[i],
    x.first + x.count - 1 < t.hooks ∧
      (∀ j : Fin 16, j < i → ∀ y ∈ t.sections[j], x.first + x.count ≤ y.first ∨ y.first + y.count ≤ x.first) ∧
      (∀ j : Fin 4, x.kind = .selvage j → (t.selvages[j]).isSome = true)

/-- Every used section of a table is sound (R128). -/
abbrev HarnessTable.Sound (t : HarnessTable) : Prop := ∀ i : Fin 16, t.SlotSound i

/-- The count of a used section is at least 1 (R56). -/
abbrev HarnessTable.CountsPositive (t : HarnessTable) : Prop := ∀ i : Fin 16, ∀ x ∈ t.sections[i], 1 ≤ x.count

/-- A hook is a FIGURE hook of a table: its section is of kind FIGURE (R55, R74). -/
abbrev HarnessTable.FigureHook (t : HarnessTable) (h : Nat) : Prop :=
  ∃ x c0 w m, t.sectionAt h = some x ∧ x.kind = .figure c0 w m

/-- A used slot passes the first test of R135: its last hook lies below the hook count. -/
abbrev HarnessTable.WithinHooks (t : HarnessTable) (x : Section) : Prop := x.first + x.count - 1 < t.hooks

/-- A used slot passes the second test of R135: it shares no hook with a used section in a lower slot. -/
abbrev HarnessTable.ClearBelow (t : HarnessTable) (i : Fin 16) (x : Section) : Prop :=
  ∀ j : Fin 16, j < i → ∀ y ∈ t.sections[j], x.first + x.count ≤ y.first ∨ y.first + y.count ≤ x.first

/-- A used slot passes the third test of R135: a SELVAGE section names a defined selvage weave. -/
abbrev HarnessTable.SelvageDefined (t : HarnessTable) (x : Section) : Prop :=
  ∀ j : Fin 4, x.kind = .selvage j → t.selvages[j] ≠ none

/-- A used slot passes the fourth test of R135: the columns of a FIGURE section lie below the width of the weaving
article, if one weaves. -/
abbrev Section.Narrow (x : Section) (width : Option Nat) : Prop :=
  ∀ W c0 w m, width = some W → x.kind = .figure c0 w m → c0 + w - 1 < W

/-- A slot fails the validation of a commit with a cause: the first of the four tests of R135 that fails, and its
cause. -/
abbrev HarnessTable.Fails (t : HarnessTable) (width : Option Nat) (i : Fin 16) (c : InvalidCause) : Prop :=
  ∃ x, t.sections[i] = some x ∧
    ((¬ t.WithinHooks x ∧ c = .beyondHooks) ∨ (t.WithinHooks x ∧ ¬ t.ClearBelow i x ∧ c = .overlap) ∨
      (t.WithinHooks x ∧ t.ClearBelow i x ∧ ¬ t.SelvageDefined x ∧ c = .selvageUndefined) ∨
      (t.WithinHooks x ∧ t.ClearBelow i x ∧ t.SelvageDefined x ∧ ¬ x.Narrow width ∧ c = .tooWide))

/-- The live table is sound, and live and shadow hold no section of no hooks (R56, R128). -/
abbrev State.TableLaw (s : State) : Prop :=
  s.harness.live.Sound ∧ s.harness.live.CountsPositive ∧ ∀ c ∈ s.harness.claim, c.shadow.CountsPositive

/-! ## Commands of the links -/

/-- For each command row the links that offer it (R190) and its shortest and longest parameters (R185, spec/11). -/
def commandOffer : Instr → Option (Offer × Nat × Nat)
  | .status _ _ | .readEvents _ _ | .readNote _ _ | .readHistory _ _ | .readFault _ _ => some (.both, 0, 0)
  | .claimHarness _ _ | .commitHarness _ _ | .discardHarness _ _ => some (.both, 0, 0)
  | .clearEvents _ _ | .setEnables _ _ => some (.both, 2, 2)
  | .note _ _ | .readHarness _ _ | .readArticle _ _ => some (.both, 1, 1)
  | .writeChain _ _ => some (.both, 4, 4)
  | .writeSection _ _ => some (.both, 11, 11)
  | .writeSelvage _ _ => some (.both, 3, 35)
  | .clearFault _ _ | .swapNow _ _ | .unload _ _ | .resync _ _ | .levelOn _ _ | .levelOff _ _ => some (.loomOnly, 0, 0)
  | .lockKeep _ _ | .unlock _ _ | .lockFixed _ _ | .breakClaim _ _ => some (.loomOnly, 0, 0)
  | .stepBack _ _ | .stepForward _ _ | .feederOut _ _ | .feederIn _ _ => some (.loomOnly, 1, 1)
  | .setPosition _ _ => some (.loomOnly, 5, 5)
  | .setPickCount _ _ | .setPieceTarget _ _ | .setMargin _ _ => some (.loomOnly, 4, 4)
  | .setTiming _ _ => some (.loomOnly, 14, 14)
  | .setDrive _ _ => some (.loomOnly, 18, 18)
  | .setFloatGuard _ _ => some (.loomOnly, 3, 3)
  | .readFrame _ _ => some (.loomOnly, 2, 2)
  | .openArticle _ _ => some (.designOnly, 6, 6)
  | .reopen _ _ | .closeArticle _ _ | .arm _ _ | .disarm _ _ | .discardBank _ _ => some (.designOnly, 1, 1)
  | .defineScheme _ _ => some (.designOnly, 3, 27)
  | .defineWeave _ _ => some (.designOnly, 5, 77)
  | .defineFeeders _ _ => some (.designOnly, 5, 5)
  | .writeLine _ _ => some (.designOnly, 6, 2052)
  | .readLine _ _ => some (.designOnly, 3, 3)
  | .fetchLine _ _ => some (.designOnly, 0, 0)
  | .encoderCount _ | .illegalStep | .index | .stillTimerExpiry | .standstillHold | .standstillRelease => none
  | .releaseInputChange _ _ | .forwardFrameComplete | .reformCompletion | .frameReadBurstDone => none
  | .loadQueueBurstDone | .readbackBurstDone | .unknownCommand _ _ _ | .overLongLength _ _ _ => none
  | .selectReleasedEarly _ | .resetPin _ _ | .powerOnReset _ _ | .selectReleased _ | .resetEnd _ _ _ _ => none

/-! ## Moments of the shaft -/

/-- The next forward count is a forward latch (R9). -/
abbrev State.AtForwardLatch (s : State) : Prop :=
  s.inReset = false ∧ s.shaft.reference = .referenced ∧ s.shaft.offset = 1023

/-- The next backward count is a reverse latch (R10). -/
abbrev State.AtReverseLatch (s : State) : Prop :=
  s.inReset = false ∧ s.shaft.reference = .referenced ∧ s.shaft.offset - 1 = -(s.shaft.timing.backOff : Int)

/-- The loom is at rest with an article weaving in step, as the position commands and UNLOAD require (R42, R46). -/
abbrev State.Movable (s : State) : Prop := s.pick.engine = .weaving ∧ s.shaft.motion = .still

/-- A forward count of the REFERENCED shaft brings d to an offset: from below, or to 0 by the latch (R11). -/
abbrev State.Crosses (s : State) (mark : Nat) : Prop :=
  mark ≤ 1023 ∧ (s.shaft.offset + 1 = (mark : Int) ∨ (s.shaft.offset = 1023 ∧ mark = 0))

/-! ## Frames -/

/-- A frame takes its weft from its pick's scheme step and its bank's feeder table, and its feeder from the resolution
by the availability and, but for a swap mark, the alternation of a state (R87, R88, R109). -/
abbrev State.Feeds (s : State) (d : Descriptor) : Prop :=
  d.system = ((s.article d.position.bank).stepAt d.position.line d.position.step).system ∧
    d.entry = (s.article d.position.bank).feeders[d.system] ∧
    (d.resolved, d.substituted) =
      resolveFeeder d.entry (if d.swap then .primaryNext else s.frame.alternation[d.system]) s.frame.available

/-- A frame of a kind and a pick is in the slot, with its weft and its feeder. -/
abbrev State.Holds (s : State) (kind : FrameKind) (p : Position) : Prop :=
  ∃ d, s.frame.slot.desc = some d ∧ d.kind = kind ∧ d.position = p ∧ s.Feeds d

/-- The feeder output that presents a feeder of a frame with an entry: none for none, the feeder while it is available,
else by re-resolution the primary if available, else the alternate if available, else none (R95–R97). -/
abbrev Presents (feeder : Option (Fin 8)) (entry : Option FeederEntry) (available : Vector Bool 8)
    (output : Option (Fin 8)) : Prop :=
  (feeder = none → output = none) ∧ (∀ f, feeder = some f → available[f] = true → output = some f) ∧
    (∀ f e, feeder = some f → available[f] = false → entry = some e →
      output = if available[e.primary] then some e.primary else e.alternate.filter fun a => available[a])

/-- The wrap of a swap has been committed from position p: the old bank RETIRED with its position retained, the other
WEAVING at (0, 0, 0), and SWAP raised on both links (R36). -/
abbrev State.Swapped (t : State) (p : Position) : Prop :=
  t.pick.position = some { bank := otherBank p.bank, line := 0, step := 0, rep := 0 } ∧
    (t.bank p.bank).state = .retired ∧ (t.bank (otherBank p.bank)).state = .weaving ∧
    (∀ a ∈ (t.bank p.bank).record, a.retained = some { line := p.line, step := p.step, rep := p.rep }) ∧
    t.loom.flags.getLsbD 3 = true ∧ t.design.flags.getLsbD 2 = true

/-- The alternation states after the latch of a forward frame, from those before its own change: the opposite of the
feeder it resolved, for an ALTERNATE entry with an alternate defined, and nothing else (R93). -/
abbrev Alternates (d : Descriptor) (old new : Vector Alternation 8) : Prop :=
  (∀ e a, d.entry = some e → e.mode = .alternate → e.alternate = some a →
    (d.resolved = some e.primary → new = old.set d.system .alternateNext) ∧
    (d.resolved = some a → a ≠ e.primary → new = old.set d.system .primaryNext) ∧ (d.resolved = none → new = old)) ∧
  ((∀ e a, d.entry = some e → e.alternate = some a → e.mode = .single) → new = old)

/-! ## Memory -/

/-- Pattern memory is in its canonical form. -/
abbrev State.MemoryCanonical (s : State) : Prop := Memory.wf s.store.memory = true

/-- Where burst n of a line lies: the halves of 16 MiB, the slots of 2,048 bytes, the bursts of 64 (R145). -/
def burstPlace (b : BankId) (line n : Nat) : Nat :=
  (match b with
    | .bankA => 0
    | .bankB => 16777216) + line * 2048 + n * 64

/-- The burst each requester waits for: the next one of the line it reads or writes, a write with the bytes of its entry
there, beyond them 0 (R110, R161, R164). -/
def State.waiting (s : State) : Requester → Option Burst
  | .frame =>
    match s.frame.slot with
    | .assembling d _ (.reading data) =>
      some { requester := .frame, address := burstPlace d.position.bank d.position.line (data.length / 64), data := [],
             dropped := false }
    | _ => none
  | .queue =>
    match s.store.queue with
    | e :: _ =>
      some { requester := .queue, address := burstPlace e.bank e.line e.written,
             data := (List.range 64).map fun i => e.cells.getD (e.written * 64 + i) 0#8, dropped := false }
    | [] => none
  | .readback =>
    match s.store.readback with
    | .filling job data =>
      some { requester := .readback, address := burstPlace job.bank job.line (data.length / 64), data := [],
             dropped := false }
    | _ => none

/-- The burst R163 grants on a free port: the frame builder's, else the load queue's, else readback's. -/
def State.due (s : State) : Option Burst :=
  match s.waiting .frame, s.waiting .queue with
  | some b, _ => some b
  | none, some b => some b
  | none, none => s.waiting .readback

/-- The port is idle only while no request waits, and the burst in progress is the one its requester waits for, unless
its work has been abandoned (R163). -/
abbrev State.PortLaw (s : State) : Prop :=
  (s.store.port = none → s.due = none) ∧
    ∀ b, s.store.port = some b → b.dropped = false → s.waiting b.requester = some b

/-! ## Transactions byte by byte -/

/-- What a row of bytes on the lines of the links does, one after the other. -/
def takeWires : List Wire → State → Host.Outcome State Fault Refusal
  | [], s => .next s
  | w :: ws, s =>
    match takeWire w s with
    | .next t => takeWires ws t
    | o => o

/-- The state with a link in its command phase and bytes received (R182). -/
def State.receiving (s : State) (k : Link) (bytes : List Byte) : State :=
  s.setLink k { s.link k with phase := .command, received := bytes, place := 0, reply := none }

end Sys2Proof.Machine
end

