-- ==== Sys2Proof/Certificates/Slice0/Obligations.lean ====
section
/-! DEFINITION. The statements for the provers. Each says which rule of spec/ it formalises; the log entries named in a
docstring are conventions of the model. -/

open Sys2Proof Sys2Proof.Machine

/-! ## The queue and time -/

/-- A step runs the command at the front of the queue with the rest waiting (log 1). -/
def Obligations.StepTakesFrontCommand : Prop :=
  ∀ (s : State) (c : Instr) (rest : List Instr), s.pending = c :: rest → step s = exec c { s with pending := rest }

/-- A step with nothing waiting, on the queue and on the lines of the links, is one microsecond of the time base (the
model's choice, logs 2 and 9): the slack counter counts, in every state outside reset (log 14), the interval counter
counts while it runs, and both hold at their ends (R17, R19); the still timer (R3) and the standstill timer (R122) run
down and expire. The clauses say what becomes of every other field; while a reset is applied time moves nothing
(log 19). -/
def Obligations.IdleStepIsOneMicrosecond : Prop :=
  ∀ s : State, s.pending = [] → s.wires = [] →
    (s.inReset = true → step s = .next s) ∧
    (s.inReset = false → ∃ t, step s = .next t ∧
      ((∀ n, s.shaft.stillTimer = some n → 1 < n) → t.shaft = { s.shaft with
        slackCounter := min (s.shaft.slackCounter + 1) 65535
        interval := if s.shaft.intervalRunning then min (s.shaft.interval + 1) 16777215 else s.shaft.interval
        stillTimer := s.shaft.stillTimer.map fun n => n - 1 }) ∧
      (∀ n, s.shaft.stillTimer = some n → n ≤ 1 → t.shaft = { s.shaft with
        slackCounter := min (s.shaft.slackCounter + 1) 65535
        interval := if s.shaft.intervalRunning then min (s.shaft.interval + 1) 16777215 else s.shaft.interval
        stillTimer := none, motion := .still, speed := 0, measuring := false, intervalRunning := false }) ∧
      (s.harness.timer = .stopped ∨ s.harness.timer = .stoppedByT2 → t.harness = s.harness ∧ t.loom = s.loom) ∧
      (∀ n, s.harness.timer = .toFirst n → 1 < n →
        t.harness = { s.harness with timer := .toFirst (n - 1) } ∧ t.loom = s.loom) ∧
      (∀ n, s.harness.timer = .toFirst n → n ≤ 1 → t.DriversFollow ∧
        t.harness = { s.harness with
          stage := .hold
          timer := if s.harness.drive.t2 = 0 then .stoppedByT2 else .toSecond (s.harness.drive.t2 * 1000000)
          driversOn := t.harness.driversOn, levels := t.harness.levels } ∧
        t.loom = { s.loom with flags := s.loom.flags ||| 0x100#16, attention := t.loom.attention }) ∧
      (∀ n, s.harness.timer = .toSecond n → 1 < n →
        t.harness = { s.harness with timer := .toSecond (n - 1) } ∧ t.loom = s.loom) ∧
      (∀ n, s.harness.timer = .toSecond n → n ≤ 1 → t.DriversFollow ∧
        t.harness = { s.harness with
          stage := .release, timer := .stopped, driversOn := t.harness.driversOn, levels := t.harness.levels } ∧
        t.loom = { s.loom with flags := s.loom.flags ||| 0x200#16, attention := t.loom.attention }) ∧
      t.pick = s.pick ∧ t.frame = s.frame ∧ t.store = s.store ∧ t.design = s.design ∧ t.inReset = s.inReset ∧
      t.freeDraws = s.freeDraws ∧ t.pending = [] ∧ t.wires = [])

/-! ## The shaft -/

/-- ENCODER_COUNT in every reference state: the angle moves by 1 modulo 1,024 (R1), the motion state takes the count's
direction and the still timer starts afresh (R3), the standstill timer restarts in RUN (R122), a backward count closes
the weft gate (R99); settings, tables, pattern memory and the links' notes and refusals stay. -/
def Obligations.CountMovesAngleAndMotion : Prop :=
  ∀ (s : State) (dir : Direction), s.inReset = false → ∃ t, exec (.encoderCount dir) s = .next t ∧
    t.shaft.angle = (if dir = .forward then (s.shaft.angle + 1) % 1024 else (s.shaft.angle + 1023) % 1024) ∧
    t.shaft.motion = (if dir = .forward then .forward else .reverse) ∧
    t.shaft.stillTimer = some (s.shaft.timing.stillTime * 1000) ∧
    t.harness.stage = .run ∧
    t.harness.timer =
      (if s.pick.engine = .noArticle ∨ s.harness.drive.t1 = 0 then .stopped
        else .toFirst (s.harness.drive.t1 * 100000)) ∧
    (dir = .backward → t.frame.gate = false) ∧
    t.shaft.timing = s.shaft.timing ∧ t.shaft.margin = s.shaft.margin ∧ t.shaft.reference = s.shaft.reference ∧
    t.pick.engine = s.pick.engine ∧ t.pick.target = s.pick.target ∧
    t.frame.level = s.frame.level ∧ t.frame.guard = s.frame.guard ∧ t.frame.available = s.frame.available ∧
    t.harness.live = s.harness.live ∧ t.harness.claim = s.harness.claim ∧ t.harness.drive = s.harness.drive ∧
    t.harness.ra = s.harness.ra ∧ t.harness.rb = s.harness.rb ∧
    t.store.memory = s.store.memory ∧ t.store.queue = s.store.queue ∧ t.store.readback = s.store.readback ∧
    t.loom.enables = s.loom.enables ∧ t.loom.noteSlot = s.loom.noteSlot ∧ t.loom.refusal = s.loom.refusal ∧
    t.design.enables = s.design.enables ∧ t.design.noteSlot = s.design.noteSlot ∧
    t.design.refusal = s.design.refusal ∧ t.pending = s.pending

/-- A count and the cycle offset d. In UNREFERENCED and LOST (R7) a count moves the angle and the motion state and
nothing of d, no latch and no mark follows, and an index in LOST is ignored. In REFERENCED (R8) each count moves d by 1,
except that the count that would bring it to 1,024 makes it 0 and the count that would bring it to −h makes it 1024 − h;
a d in −h+1..1023 stays there. -/
def Obligations.CountsAndTheCycleOffset : Prop :=
  (∀ (s : State) (dir : Direction), s.inReset = false → s.shaft.reference ≠ .referenced →
    (∃ l : EncoderLines, exec (.encoderCount dir) s = .next
      (restartStandstill
        { s with
          shaft := { s.shaft with
            angle := if dir = .forward then (s.shaft.angle + 1) % 1024 else (s.shaft.angle + 1023) % 1024
            lines := l
            motion := if dir = .forward then .forward else .reverse
            stillTimer := some (s.shaft.timing.stillTime * 1000) }
          frame := { s.frame with gate := s.frame.gate && dir == .forward } })) ∧
    (s.shaft.reference = .lost → exec .index s = .next s)) ∧
  (∀ (s : State) (dir : Direction), s.inReset = false → s.shaft.reference = .referenced →
    ∃ t, exec (.encoderCount dir) s = .next t ∧
      t.shaft.offset =
        (match dir with
          | .forward => if s.shaft.offset + 1 = 1024 then 0 else s.shaft.offset + 1
          | .backward =>
            if s.shaft.offset - 1 = -(s.shaft.timing.backOff : Int) then 1024 - (s.shaft.timing.backOff : Int)
            else s.shaft.offset - 1) ∧
      (2 ≤ s.shaft.timing.backOff → s.shaft.timing.backOff ≤ 32 →
        -(s.shaft.timing.backOff : Int) < s.shaft.offset → s.shaft.offset ≤ 1023 →
        -(s.shaft.timing.backOff : Int) < t.shaft.offset ∧ t.shaft.offset ≤ 1023))

/-- Speed and slack at a forward latch. With the measurement flag set the speed is floor(60,000,000 / P) capped at
4,095, 0 for a stopped counter and 4,095 for an interval of 0; with the flag clear it is 0 (R18); the measurement starts
again from 0 (R17). SET MARGIN is answered DONE in every state and clamps at 65,535; a latch that finds a READY frame
with a non-zero margin and a smaller slack raises MARGIN LOW on the loom link, an equal slack and a latch without a
READY frame raise nothing (R20). The slack is that of R19. -/
def Obligations.ForwardLatchMeasuresSpeedAndSlack : Prop :=
  (∀ s : State, s.AtForwardLatch → ∃ t, exec (.encoderCount .forward) s = .next t ∧
    t.shaft.speed =
      (if s.shaft.measuring then
        if s.shaft.interval = 16777215 then 0
        else if s.shaft.interval = 0 then 4095 else min (60000000 / s.shaft.interval) 4095
      else 0) ∧
    t.shaft.measuring = true ∧ t.shaft.interval = 0 ∧ t.shaft.intervalRunning = true) ∧
  ((∀ (p : List Byte) (s : State), s.listens .loom = true → p.length = 4 →
    exec (.setMargin .loom p) s =
      .next (answer .loom 0x30 (.done []) { s with shaft.margin := min (longAt p 0) 65535 })) ∧
  (∀ (s : State) (d : Descriptor), s.AtForwardLatch → s.pick.engine = .weaving → s.frame.slot = .ready d →
    ∃ t, exec (.encoderCount .forward) s = .next t ∧
      t.loom.flags.getLsbD 11 =
        (s.loom.flags.getLsbD 11 || (s.shaft.margin != 0 && decide (t.shaft.slack < s.shaft.margin))) ∧
      (s.shaft.timing.frameStart ≠ 0 → t.shaft.slackCounter = s.shaft.slackCounter) ∧
      t.shaft.slack = s.shaft.slackCounter) ∧
  (∀ s : State, s.AtForwardLatch → s.pick.engine ≠ .weaving ∨ (∀ d, s.frame.slot ≠ .ready d) →
    ∃ t, exec (.encoderCount .forward) s = .next t ∧ t.loom.flags.getLsbD 11 = s.loom.flags.getLsbD 11))

/-- ILLEGAL_STEP is no count (R2): angle, d and motion stay; in UNREFERENCED and LOST it does nothing but change the
lines, in REFERENCED the shaft becomes LOST with its cause. -/
def Obligations.IllegalStepIsNoCount : Prop :=
  ∀ s : State, s.inReset = false → ∃ t, exec .illegalStep s = .next t ∧
    t.shaft.angle = s.shaft.angle ∧ t.shaft.offset = s.shaft.offset ∧ t.shaft.motion = s.shaft.motion ∧
    t.shaft.stillTimer = s.shaft.stillTimer ∧ t.harness.timer = s.harness.timer ∧
    t.harness.stage = s.harness.stage ∧
    (s.shaft.reference = .referenced → t.shaft.reference = .lost ∧ t.shaft.cause = .illegalStep) ∧
    (s.shaft.reference ≠ .referenced →
      t = { s with shaft.lines := { a := !s.shaft.lines.a, b := !s.shaft.lines.b } })

/-- INDEX in UNREFERENCED references the shaft (R4): angle 0, d the remainder of −A_L, no crossing, and an owed re-form
starts with its cause (R107). INDEX in REFERENCED (R5, R6): an angle in 0..t or 1024−t..1023 becomes 0 and d moves by
the same correction, taken into −h+1..1023, with no crossing; with settings that pass R15, and d the offset of the
angle, the adjustment never acts. Any other angle makes the shaft LOST with INDEX MISMATCH, angle and d kept. -/
def Obligations.IndexReferencesAndChecks : Prop :=
  (∀ s : State, s.inReset = false → s.shaft.reference = .unreferenced → ∃ t, exec .index s = .next t ∧
    t.shaft = { s.shaft with
      angle := 0, offset := (0 - (s.shaft.timing.latchAngle : Int)) % 1024, reference := .referenced,
      slackCounter := t.shaft.slackCounter } ∧
    t.pick.position = s.pick.position ∧ t.pick.counter = s.pick.counter ∧ t.frame.owed = none ∧
    (s.frame.owed = none → t.pick = s.pick ∧ t.frame = s.frame ∧ t.harness = s.harness ∧ t.store = s.store ∧
      t.loom = s.loom ∧ t.design = s.design) ∧
    (∀ c p, s.frame.owed = some c → s.pick.position = some p → s.harness.live.hooks ≠ 0 →
      t.Holds (.reform c) p ∧ t.pick.reforming = true ∧ t.frame.latched = s.frame.latched)) ∧
  (∀ s : State, s.inReset = false → s.shaft.reference = .referenced → s.shaft.angle ≤ 1023 →
    s.shaft.timing.tolerance ≤ 7 →
    (∀ c : Nat, c ≤ s.shaft.timing.tolerance → s.shaft.angle = c →
      exec .index s = .next { s with
        shaft := { s.shaft with
          angle := 0
          offset :=
            if s.shaft.offset - c ≤ -(s.shaft.timing.backOff : Int) then s.shaft.offset - c + 1024
            else if 1024 ≤ s.shaft.offset - c then s.shaft.offset - c - 1024 else s.shaft.offset - c } }) ∧
    (∀ c : Nat, 1 ≤ c → c ≤ s.shaft.timing.tolerance → s.shaft.angle = 1024 - c →
      exec .index s = .next { s with
        shaft := { s.shaft with
          angle := 0
          offset :=
            if 1024 ≤ s.shaft.offset + c then s.shaft.offset + c - 1024
            else if s.shaft.offset + c ≤ -(s.shaft.timing.backOff : Int) then s.shaft.offset + c + 1024
            else s.shaft.offset + c } }) ∧
    (s.shaft.timing.Acceptable → 2 ≤ s.shaft.timing.backOff → s.shaft.timing.backOff ≤ 32 →
      -(s.shaft.timing.backOff : Int) < s.shaft.offset → s.shaft.offset ≤ 1023 →
      (∃ r : Int, s.shaft.offset = s.shaft.angle - s.shaft.timing.latchAngle + 1024 * r) →
      (∀ c : Nat, c ≤ s.shaft.timing.tolerance → s.shaft.angle = c →
        -(s.shaft.timing.backOff : Int) < s.shaft.offset - c ∧ s.shaft.offset - c < 1024) ∧
      (∀ c : Nat, 1 ≤ c → c ≤ s.shaft.timing.tolerance → s.shaft.angle = 1024 - c →
        -(s.shaft.timing.backOff : Int) < s.shaft.offset + c ∧ s.shaft.offset + c < 1024)) ∧
    (s.shaft.timing.tolerance < s.shaft.angle → s.shaft.angle < 1024 - s.shaft.timing.tolerance →
      ∃ t, exec .index s = .next t ∧ t.shaft.reference = .lost ∧ t.shaft.cause = .indexMismatch ∧
        t.shaft.angle = s.shaft.angle ∧ t.shaft.offset = s.shaft.offset))

/-- Entry to LOST by either cause (R12, R107, R177): the speed 0 and the measurement cancelled; SHAFT LOST in the
fault record as it stands; the engine UNSYNCHRONISED where an article weaves, with the pending frame discarded, a
re-form owed and the latched selection kept; the feeder output none and the gate off; the stop request asserted; in the
harness unit the drivers by the loss policy (R124): all OFF under RELEASE, as they were under HOLD, and no other field
moved. -/
def Obligations.ShaftLossReachesEveryBlock : Prop :=
  ∀ (s : State) (i : Instr) (c : LossCause), s.inReset = false → s.shaft.reference = .referenced →
    ((i = .illegalStep ∧ c = .illegalStep) ∨
      (i = .index ∧ c = .indexMismatch ∧ s.shaft.timing.tolerance < s.shaft.angle ∧
        s.shaft.angle < 1024 - s.shaft.timing.tolerance)) →
    ∃ t, exec i s = .next t ∧ t.shaft.reference = .lost ∧ t.shaft.cause = c ∧ t.shaft.speed = 0 ∧
      t.shaft.measuring = false ∧ t.frame.output = none ∧ t.frame.gate = false ∧
      (s.StopFollows → t.pick.stopRequest = true) ∧
      (s.pick.fault = none → t.pick.fault = some
          { kind := .shaftLost, cause := c, counter := s.pick.counter, position := s.pick.position,
            angle := s.shaft.angle, laterCount := 0, laterKinds := .empty } ∧
        t.loom.flags.getLsbD 0 = true ∧ t.design.flags.getLsbD 0 = true) ∧
      (∀ r, s.pick.fault = some r → t.pick.fault = some
          { r with laterCount := min (r.laterCount + 1) 255, laterKinds := { r.laterKinds with shaftLost := true } } ∧
        t.loom = s.loom ∧ t.design = s.design) ∧
      (s.pick.engine = .weaving → t.pick.engine = .unsynchronised ∧ t.frame.slot = .empty ∧
        t.frame.owed = some .reform) ∧
      (s.pick.engine = .noArticle → t.pick.engine = .noArticle ∧ t.frame.owed = s.frame.owed) ∧
      t.DriversFollow ∧
      t.harness = { s.harness with driversOn := t.harness.driversOn, levels := t.harness.levels } ∧
      (s.harness.drive.policy = .release → t.harness.driversOn = Vector.replicate 8 false) ∧
      (s.harness.drive.policy = .hold → s.DriversFollow → t.harness = s.harness) ∧
      t.frame.latched = s.frame.latched ∧ t.pick.position = s.pick.position ∧ t.pick.counter = s.pick.counter ∧
      t.pick.history = s.pick.history ∧ t.frame.committed = s.frame.committed ∧
      t.frame.alternation = s.frame.alternation

/-- The three expiries (R3, R122). The still timer's sets STILL and cancels the measurement; the first standstill
expiry sets HOLD with the standstill level and STANDSTILL HOLD, the second RELEASE with every driver off and STANDSTILL
RELEASE. An expiry row that finds its timer not running does nothing (log 3). -/
def Obligations.TimerExpiries : Prop :=
  ∀ s : State,
    (∀ n, s.shaft.stillTimer = some n →
      exec .stillTimerExpiry s = .next { s with
        shaft := { s.shaft with
          motion := .still, stillTimer := none, speed := 0, measuring := false, intervalRunning := false } }) ∧
    (s.shaft.stillTimer = none → exec .stillTimerExpiry s = .next s) ∧
    (∀ n, s.harness.timer = .toFirst n → ∃ t, exec .standstillHold s = .next t ∧
      t.harness = { s.harness with
        stage := .hold
        timer := if s.harness.drive.t2 = 0 then .stoppedByT2 else .toSecond (s.harness.drive.t2 * 1000000)
        driversOn := t.harness.driversOn
        levels := Vector.replicate 8 (s.harness.drive.slots[s.harness.drive.standstillSlot]) } ∧
      t.loom.flags = s.loom.flags ||| 0x100#16 ∧ t.shaft = s.shaft ∧ t.pick = s.pick ∧ t.frame = s.frame ∧
      t.store = s.store ∧ t.design = s.design) ∧
    (∀ n, s.harness.timer = .toSecond n → ∃ t, exec .standstillRelease s = .next t ∧
      t.harness = { s.harness with
        stage := .release, timer := .stopped, driversOn := Vector.replicate 8 false
        levels := Vector.replicate 8 (s.harness.drive.slots[s.harness.drive.standstillSlot]) } ∧
      t.loom.flags = s.loom.flags ||| 0x200#16 ∧ t.shaft = s.shaft ∧ t.pick = s.pick ∧ t.frame = s.frame ∧
      t.store = s.store ∧ t.design = s.design) ∧
    ((∀ n, s.harness.timer ≠ .toFirst n) → exec .standstillHold s = .next s) ∧
    ((∀ n, s.harness.timer ≠ .toSecond n) → exec .standstillRelease s = .next s)

/-- RELEASE_INPUT_CHANGE (R120): a change of RA or RB sets the input, re-evaluates every chain's drivers and raises
RELEASE INPUT CHANGE on the loom link; no frame, position or standstill stage moves; a level that is no change raises
nothing. While a reset is applied the input is followed and raises nothing (the model's reading, log 19). -/
def Obligations.ReleaseInputChangeRaisesEvent : Prop :=
  ∀ (s : State) (input : ReleaseInput) (b : Bool), ∃ t, exec (.releaseInputChange input b) s = .next t ∧
    (match input with
      | .ra => t.harness.ra = b ∧ t.harness.rb = s.harness.rb
      | .rb => t.harness.rb = b ∧ t.harness.ra = s.harness.ra) ∧
    t.shaft = s.shaft ∧ t.pick = s.pick ∧ t.frame = s.frame ∧ t.store = s.store ∧ t.design = s.design ∧
    t.harness.stage = s.harness.stage ∧ t.harness.timer = s.harness.timer ∧ t.harness.live = s.harness.live ∧
    t.harness.claim = s.harness.claim ∧ t.harness.drive = s.harness.drive ∧
    (s.inReset = true → t.loom = s.loom) ∧
    (s.inReset = false → (match input with | .ra => s.harness.ra | .rb => s.harness.rb) = b → t = s) ∧
    (s.inReset = false → (match input with | .ra => s.harness.ra | .rb => s.harness.rb) ≠ b →
      t.loom.flags = s.loom.flags ||| 0x400#16 ∧ t.DriversFollow)

/-! ## Latches and the pending frame -/

/-- A forward latch that finds a READY frame (R27, R113): the chains take its lifts, the descriptor and pick feeder are
its, the position moves forward by one pick: the next step of the line, else the first of the next line, else a wrap
(R24). A swap-marked frame at a wrap commits the swap: the old bank RETIRED with its position retained, the other
WEAVING at (0, 0, 0), SWAP on both links, fresh alternation and the swap flag in the record (R36, R49); a plain wrap
raises WRAP on both links (R28). The counter adds 1, the FORWARD record is written, the alternation of the frame's
system becomes the opposite of the feeder used (R93). The float guard clears at a LEVEL mark or a swap (R80), in OFF keeps
its state, and in BIND and STOP commits each FIGURE hook by the lift delivered: in the sense it had, its run grows by 1 up
to the cap; in another, it is that sense with a run of 1 (R79). A FLOAT VIOLATION mark reports FLOAT LIMIT with the counter
and the position as the latch has moved them and the angle of the latch, as the first fault or as a later one (R78,
R170–R172), and a frame without the mark reports no fault. Where F is not 0 the slot is EMPTY after it. -/
def Obligations.ForwardLatchTakesReadyFrame : Prop :=
  ∀ (s : State) (d : Descriptor) (p : Position) (a : Article), s.AtForwardLatch → s.pick.engine = .weaving →
    s.frame.slot = .ready d → s.pick.position = some p → a = s.article p.bank →
    ∃ t, exec (.encoderCount .forward) s = .next t ∧
    t.shaft.offset = 0 ∧ t.frame.latched = s.frame.staged ∧ t.frame.latchedDesc = some d ∧
    t.frame.pickFeeder = .frame d.resolved ∧
    (s.shaft.timing.frameStart ≠ 0 → t.frame.slot = .empty) ∧
    (p.step + 1 < a.len p.line → t.pick.position = some { p with step := p.step + 1 }) ∧
    (a.len p.line ≤ p.step + 1 → p.line + 1 < a.height →
      t.pick.position = some { p with line := p.line + 1, step := 0 }) ∧
    (a.len p.line ≤ p.step + 1 → a.height ≤ p.line + 1 →
      (d.swap = true → t.Swapped p ∧ Alternates d (Vector.replicate 8 .primaryNext) t.frame.alternation) ∧
      (d.swap = false →
        t.pick.position = some { bank := p.bank, line := 0, step := 0, rep := min (p.rep + 1) 65535 } ∧
          t.loom.flags.getLsbD 2 = true ∧ t.design.flags.getLsbD 1 = true)) ∧
    (p.step + 1 < a.len p.line ∨ p.line + 1 < a.height ∨ d.swap = false →
      Alternates d s.frame.alternation t.frame.alternation) ∧
    t.pick.counter = min (s.pick.counter + 1) 4294967295 ∧
    (∃ r : HistoryRecord, t.pick.history = (r :: s.pick.history).take 16 ∧ r.kind = .forward ∧
      r.counter = t.pick.counter ∧ some r.position = t.pick.position ∧ r.feeder = d.resolved ∧
      r.substituted = d.substituted ∧ r.bindCount = d.bindCount ∧
      (a.len p.line ≤ p.step + 1 → a.height ≤ p.line + 1 → d.swap = true → r.swapFlag = true) ∧
      (p.step + 1 < a.len p.line ∨ p.line + 1 < a.height ∨ d.swap = false → r.swapFlag = s.pick.exchangeNote)) ∧
    t.pick.exchangeNote = false ∧
    t.frame.committed =
      (if d.level || d.swap then []
      else if s.frame.guard.mode = .off then s.frame.committed
      else commitRuns s.harness.live s.frame.guard s.frame.staged s.frame.committed) ∧
    (d.level = false → d.swap = false → s.frame.guard.mode ≠ .off → ∀ (h : Nat) (b : Bool) (r : FloatRun),
      b = hookLift s.frame.staged s.harness.live h → r = s.frame.committed.getD h { sense := .none, run := 0 } →
      (h < s.harness.live.hooks → s.harness.live.FigureHook h →
        t.frame.committed.getD h { sense := .none, run := 0 } =
          (if r.sense = (if b then .up else .down) then
            { sense := r.sense
              run := min (r.run + 1)
                (match b with
                  | true => if s.frame.guard.up = 0 then 64 else s.frame.guard.up
                  | false => if s.frame.guard.down = 0 then 64 else s.frame.guard.down) }
          else { sense := if b then .up else .down, run := 1 })) ∧
      (s.harness.live.hooks ≤ h ∨ ¬ s.harness.live.FigureHook h →
        t.frame.committed.getD h { sense := .none, run := 0 } = { sense := .none, run := 0 })) ∧
    (d.violation = true →
      (s.pick.fault = none → ∃ r, t.pick.fault = some r ∧ r.kind = .floatLimit ∧ r.cause = .none ∧
        r.counter = t.pick.counter ∧ r.position = t.pick.position ∧ r.angle = (s.shaft.angle + 1) % 1024 ∧
        t.loom.flags.getLsbD 0 = true ∧ t.design.flags.getLsbD 0 = true ∧ t.pick.stopRequest = true ∧
        (s.shaft.timing.frameStart ≠ 0 → s.shaft.timing.weftSelect ≠ 0 →
          r.laterCount = 0 ∧ r.laterKinds = .empty)) ∧
      (∀ r, s.pick.fault = some r → ∃ r', t.pick.fault = some r' ∧ r'.kind = r.kind ∧ r'.cause = r.cause ∧
        r'.counter = r.counter ∧ r'.position = r.position ∧ r'.angle = r.angle ∧ r'.laterKinds.floatLimit = true ∧
        (s.shaft.timing.frameStart ≠ 0 → s.shaft.timing.weftSelect ≠ 0 →
          r'.laterCount = min (r.laterCount + 1) 255 ∧
          r'.laterKinds = { r.laterKinds with floatLimit := true }))) ∧
    (d.violation = false → s.shaft.timing.frameStart ≠ 0 → s.shaft.timing.weftSelect ≠ 0 →
      t.pick.fault = s.pick.fault) ∧
    (s.shaft.timing.frameStart ≠ 0 → d.swap = false → t.store = s.store)

/-- A forward latch in WEAVING that finds no READY frame is LATE (R27, R114): the chains and the latched descriptor
stay, the pick feeder is no frame, the slack is 0, the committed state is cleared, the position moves by R24 and the
counter adds 1 all the same, a STALE record is written, and LATE FRAME is reported with the counter and position after
the latch and the angle at it. At a wrap the swap of an abandoned swap-marked frame commits all the same (R36); with no
forward frame in hand and the other bank ARMED the decision is taken at the latch (R35, log 16): it swaps, or it makes
the bank READY with SWAP REFUSED and wraps within the article (R37). -/
def Obligations.LateLatchKeepsTheShed : Prop :=
  ∀ (s : State) (p : Position), s.AtForwardLatch → s.pick.engine = .weaving → (∀ d, s.frame.slot ≠ .ready d) →
    s.pick.position = some p → ∃ t, exec (.encoderCount .forward) s = .next t ∧
    t.frame.latched = s.frame.latched ∧ t.frame.latchedDesc = s.frame.latchedDesc ∧ t.frame.pickFeeder = .noFrame ∧
    t.shaft.slack = 0 ∧ t.frame.committed = [] ∧
    (s.shaft.timing.frameStart ≠ 0 → t.frame.slot = .empty ∧ (s.frame.slot.isReform = true → t.pick.reforming = false)) ∧
    (p.step + 1 < (s.article p.bank).len p.line → t.pick.position = some { p with step := p.step + 1 }) ∧
    ((s.article p.bank).len p.line ≤ p.step + 1 → p.line + 1 < (s.article p.bank).height →
      t.pick.position = some { p with line := p.line + 1, step := 0 }) ∧
    ((s.article p.bank).len p.line ≤ p.step + 1 → (s.article p.bank).height ≤ p.line + 1 →
      ((∃ d v st, s.frame.slot = .assembling d v st ∧ d.kind = .forward ∧ d.swap = true) → t.Swapped p) ∧
      ((∃ d v st, s.frame.slot = .assembling d v st ∧ d.kind = .forward ∧ d.swap = false) →
        t.pick.position = some { bank := p.bank, line := 0, step := 0, rep := min (p.rep + 1) 65535 } ∧
          t.loom.flags.getLsbD 2 = true ∧ t.design.flags.getLsbD 1 = true) ∧
      ((∀ d v st, s.frame.slot = .assembling d v st → d.kind ≠ .forward) →
        ((s.bank (otherBank p.bank)).state = .armed → s.fits (otherBank p.bank) = true → t.Swapped p) ∧
        ((s.bank (otherBank p.bank)).state ≠ .armed ∨ s.fits (otherBank p.bank) = false →
          t.pick.position = some { bank := p.bank, line := 0, step := 0, rep := min (p.rep + 1) 65535 } ∧
            t.loom.flags.getLsbD 2 = true ∧ t.design.flags.getLsbD 1 = true) ∧
        ((s.bank (otherBank p.bank)).state = .armed → s.fits (otherBank p.bank) = false →
          (t.bank (otherBank p.bank)).state = .ready ∧ t.loom.flags.getLsbD 4 = true ∧
            t.design.flags.getLsbD 3 = true))) ∧
    t.pick.counter = min (s.pick.counter + 1) 4294967295 ∧
    (∃ r : HistoryRecord, t.pick.history = (r :: s.pick.history).take 16 ∧ r.kind = .stale ∧
      r.counter = t.pick.counter ∧ some r.position = t.pick.position ∧ r.feeder = none ∧ r.substituted = false ∧
      r.bindCount = 0) ∧
    (s.StopFollows → t.pick.stopRequest = true) ∧
    (s.pick.fault = none → ∃ r, t.pick.fault = some r ∧ r.kind = .lateFrame ∧ r.counter = t.pick.counter ∧
      r.position = t.pick.position ∧ r.angle = (s.shaft.angle + 1) % 1024) ∧
    (∀ r, s.pick.fault = some r → ∃ r', t.pick.fault = some r' ∧ r'.kind = r.kind ∧ r'.cause = r.cause ∧
      r'.counter = r.counter ∧ r'.position = r.position ∧ r'.angle = r.angle ∧ r'.laterKinds.lateFrame = true)

/-- A reverse latch (R10, R29, R116): d becomes 1024 − h, the speed 0 and the measurement is cancelled; in WEAVING the
position steps back by R25: the step before, else the last of the line before, else the last pick of the repeat with
one repeat less; the counter loses 1 and stops at 0, no record is written, and with hooks to
shift the re-form of the new position is in the slot with the old shed still latched. In NO ARTICLE the pick engine and
the frame builder are left but for the gate. -/
def Obligations.ReverseLatchStepsBack : Prop :=
  ∀ s : State, s.AtReverseLatch → ∃ t, exec (.encoderCount .backward) s = .next t ∧
    t.shaft.offset = 1024 - (s.shaft.timing.backOff : Int) ∧ t.shaft.speed = 0 ∧ t.shaft.measuring = false ∧
    t.frame.gate = false ∧
    (s.pick.engine ≠ .weaving → t.pick = s.pick ∧ t.frame = { s.frame with gate := false } ∧ t.store = s.store) ∧
    (s.pick.engine = .weaving → ∀ p, s.pick.position = some p →
      t.pick.counter = s.pick.counter - 1 ∧
      (p.step ≠ 0 → t.pick.position = some { p with step := p.step - 1 }) ∧
      (p.step = 0 → p.line ≠ 0 → t.pick.position = some
        { p with line := p.line - 1, step := (s.article p.bank).len (p.line - 1) - 1 }) ∧
      (p.step = 0 → p.line = 0 → p.rep ≠ 0 ∨ (s.bank (otherBank p.bank)).state ≠ .retired →
        t.pick.position = some
          { bank := p.bank, line := (s.article p.bank).height - 1,
            step := (s.article p.bank).len ((s.article p.bank).height - 1) - 1, rep := p.rep - 1 }) ∧
      (s.harness.live.hooks ≠ 0 → ∃ c q, t.pick.position = some q ∧ t.Holds (.reform c) q ∧
        (c = .reverse ∨ c = .undo) ∧ t.pick.reforming = true ∧ t.pick.history = s.pick.history ∧
        t.frame.latched = s.frame.latched ∧ t.frame.latchedDesc = s.frame.latchedDesc ∧
        t.frame.output = s.frame.output))

/-- An undo at a reverse latch from (0, 0, 0) beside a RETIRED bank (R40): where the width check passes the RETIRED
bank weaves again at its retained position, the other becomes ARMED, the alternation and float states are fresh and
SWAP UNDONE is raised on both links; where it fails SWAP REFUSED is raised and the move wraps within the article. -/
def Obligations.ReverseLatchUndoesSwap : Prop :=
  ∀ (s : State) (p : Position) (r : Retained), s.AtReverseLatch → s.pick.engine = .weaving →
    s.pick.position = some p → p.line = 0 → p.step = 0 → p.rep = 0 →
    (s.bank (otherBank p.bank)).state = .retired → ((s.bank (otherBank p.bank)).record.bind (·.retained)) = some r →
    s.harness.live.hooks ≠ 0 → ∃ t, exec (.encoderCount .backward) s = .next t ∧
    (s.fits (otherBank p.bank) = true →
      t.pick.position = some { bank := otherBank p.bank, line := r.line, step := r.step, rep := r.rep } ∧
      (t.bank p.bank).state = .armed ∧ (t.bank (otherBank p.bank)).state = .weaving ∧
      ((t.bank (otherBank p.bank)).record.bind (·.retained)) = none ∧ t.pick.exchangeNote = true ∧
      t.frame.alternation = Vector.replicate 8 .primaryNext ∧ t.frame.committed = [] ∧
      t.loom.flags.getLsbD 5 = true ∧ t.design.flags.getLsbD 4 = true ∧
      t.Holds (.reform .undo) { bank := otherBank p.bank, line := r.line, step := r.step, rep := r.rep }) ∧
    (s.fits (otherBank p.bank) = false →
      t.pick.position = some
        { bank := p.bank, line := (s.article p.bank).height - 1,
          step := (s.article p.bank).len ((s.article p.bank).height - 1) - 1, rep := 0 } ∧
      t.store.bankA = s.store.bankA ∧ t.store.bankB = s.store.bankB ∧
      t.loom.flags.getLsbD 4 = true ∧ t.design.flags.getLsbD 3 = true)

/-- The angle marks at a forward count. A crossing of the frame start mark in WEAVING (R104): with the slot EMPTY the
forward frame of the next pick is started, carrying the counter plus 1 and the LEVEL flag, the weft system and the entry
of its pick and the feeder its resolution gives (R87, R88); a substitution raises FEEDER SUBSTITUTED, and no feeder is
WEFT UNAVAILABLE with the counter, position and angle as they stand (R91). At a wrap beside an ARMED bank the swap
decision is the width check, whose pass gives the swap mark and whose failure makes the bank READY with SWAP REFUSED on
both links (R35–R37); with a frame in hand, and outside WEAVING, nothing is started. The position stays. A crossing of
the weft select mark sets the feeder output by R95 from the pick feeder as the count leaves it. The weft gate goes off
at G_off, on at G_on in WEAVING, and G_off wins where one count crosses both (R99, R100). -/
def Obligations.FrameStartCrossingStartsForwardFrame : Prop :=
  (∀ (s : State) (p : Position) (a : Article), s.inReset = false → s.shaft.reference = .referenced →
    s.shaft.offset + 1 = (s.shaft.timing.frameStart : Int) → s.shaft.timing.frameStart ≤ 1023 →
    s.pick.position = some p → a = s.article p.bank → ∃ t, exec (.encoderCount .forward) s = .next t ∧
    t.pick.position = some p ∧ t.pick.counter = s.pick.counter ∧ t.pick.history = s.pick.history ∧
    t.frame.latched = s.frame.latched ∧
    (s.frame.slot ≠ .empty ∨ s.pick.engine ≠ .weaving → t.frame.slot = s.frame.slot) ∧
    (s.frame.slot = .empty → s.pick.engine = .weaving → ∃ d, t.frame.slot.desc = some d ∧ d.kind = .forward ∧
      d.level = s.frame.level ∧ d.pickValue = min (s.pick.counter + 1) 4294967295 ∧ d.bindCount = 0 ∧
      d.violation = false ∧ s.Feeds d ∧
      (s.PortLaw → s.store.port = none → t.store.port = t.due) ∧
      (d.resolved = none → s.pick.fault = none → ∃ r, t.pick.fault = some r ∧ r.kind = .weftUnavailable ∧
        r.counter = s.pick.counter ∧ r.position = some p ∧ r.angle = (s.shaft.angle + 1) % 1024 ∧
        t.loom.flags.getLsbD 0 = true ∧ t.design.flags.getLsbD 0 = true) ∧
      (∀ r, d.resolved = none → s.pick.fault = some r → ∃ x, t.pick.fault = some x ∧ x.kind = r.kind ∧
        x.laterKinds.weftUnavailable = true) ∧
      (s.shaft.timing.weftSelect ≠ s.shaft.timing.frameStart →
        (d.resolved ≠ none → t.pick.fault = s.pick.fault) ∧
        t.loom.flags.getLsbD 12 = (s.loom.flags.getLsbD 12 || d.substituted)) ∧
      (p.step + 1 < a.len p.line → d.position = { p with step := p.step + 1 } ∧ d.swap = false) ∧
      (a.len p.line ≤ p.step + 1 → p.line + 1 < a.height →
        d.position = { p with line := p.line + 1, step := 0 } ∧ d.swap = false) ∧
      (a.len p.line ≤ p.step + 1 → a.height ≤ p.line + 1 →
        ((s.bank (otherBank p.bank)).state ≠ .armed →
          d.position = { bank := p.bank, line := 0, step := 0, rep := min (p.rep + 1) 65535 } ∧ d.swap = false) ∧
        ((s.bank (otherBank p.bank)).state = .armed → s.fits (otherBank p.bank) = true →
          d.position = { bank := otherBank p.bank, line := 0, step := 0, rep := 0 } ∧ d.swap = true) ∧
        ((s.bank (otherBank p.bank)).state = .armed → s.fits (otherBank p.bank) = false →
          d.position = { bank := p.bank, line := 0, step := 0, rep := min (p.rep + 1) 65535 } ∧ d.swap = false ∧
            (t.bank (otherBank p.bank)).state = .ready ∧ t.loom.flags.getLsbD 4 = true ∧
            t.design.flags.getLsbD 3 = true)))) ∧
  (∀ s : State, s.inReset = false → s.shaft.reference = .referenced → s.Crosses s.shaft.timing.weftSelect →
    ∃ t, exec (.encoderCount .forward) s = .next t ∧
    (s.pick.engine ≠ .weaving → t.frame.output = none) ∧
    (s.pick.engine = .weaving → t.pick.reforming = true → t.frame.output = s.frame.output) ∧
    (s.pick.engine = .weaving → t.pick.reforming = false →
      (t.frame.pickFeeder = .noFrame → t.frame.output = none) ∧
      (∀ f d, t.frame.pickFeeder = .frame f → t.frame.latchedDesc = some d →
        Presents f d.entry s.frame.available t.frame.output ∧
        (∀ x g, f = some x → s.frame.available[x] = false → t.frame.output = some g → some g ≠ d.resolved →
          t.loom.flags.getLsbD 12 = true) ∧
        (∀ x, f = some x → s.frame.available[x] = false → t.frame.output = none → t.pick.fault.isSome = true)))) ∧
  (∀ s : State, s.inReset = false → s.shaft.reference = .referenced → ∃ t, exec (.encoderCount .forward) s = .next t ∧
    (s.Crosses s.shaft.timing.gateOff → t.frame.gate = false) ∧
    (s.Crosses s.shaft.timing.gateOn → ¬ s.Crosses s.shaft.timing.gateOff →
      t.frame.gate = (s.frame.gate || s.pick.engine == .weaving)) ∧
    (¬ s.Crosses s.shaft.timing.gateOn → ¬ s.Crosses s.shaft.timing.gateOff → s.shaft.timing.gateOn ≤ 1023 →
      s.shaft.timing.gateOff ≤ 1023 → t.frame.gate = s.frame.gate))

/-- FORWARD_FRAME_COMPLETE and REFORM_COMPLETION (R112, R115). A forward frame whose lifts are shifted becomes READY
and starts the slack counter afresh. A re-form whose lifts are shifted is latched at once: the chains take its lifts,
the descriptor and the pick feeder are its, the feeder output presents its feeder at once, re-resolved where it has gone
out (R96), the committed state is cleared, its record is written, REFORM DONE is raised on the loom link and the
standstill stage is RUN; position, counter and alternation stay, and in WEAVING with the slot free a forward frame
follows, fed by its own resolution (R88, R105). A completion that finds nothing to complete does nothing (log 4). -/
def Obligations.FrameCompletions : Prop :=
  ∀ s : State,
    (∀ d v, s.frame.slot = .assembling d v .shifting → d.kind = .forward →
      exec .forwardFrameComplete s = .next { s with frame.slot := .ready d, shaft.slackCounter := 0 }) ∧
    ((∀ d v, s.frame.slot ≠ .assembling d v .shifting) →
      exec .forwardFrameComplete s = .next s ∧ exec .reformCompletion s = .next s) ∧
    (∀ d v c, s.frame.slot = .assembling d v .shifting → d.kind = .reform c →
      exec .forwardFrameComplete s = .next s ∧
      ∃ t, exec .reformCompletion s = .next t ∧
        t.frame.latched = s.frame.staged ∧ t.frame.latchedDesc = some d ∧ t.frame.pickFeeder = .frame d.resolved ∧
        t.frame.committed = [] ∧ t.frame.alternation = s.frame.alternation ∧ t.loom.flags.getLsbD 1 = true ∧
        t.harness.stage = .run ∧ t.pick.reforming = false ∧ t.pick.position = s.pick.position ∧
        t.pick.counter = s.pick.counter ∧ t.frame.slot.isReform = false ∧
        Presents d.resolved d.entry s.frame.available t.frame.output ∧
        (∀ x g, d.resolved = some x → s.frame.available[x] = false → t.frame.output = some g → g ≠ x →
          t.loom.flags.getLsbD 12 = true) ∧
        (∀ x, d.resolved = some x → s.frame.available[x] = false → t.frame.output = none →
          t.pick.fault.isSome = true) ∧
        (∀ p, s.pick.position = some p → ∃ r : HistoryRecord, t.pick.history = (r :: s.pick.history).take 16 ∧
          r.kind = .reform c ∧ r.counter = s.pick.counter ∧ r.position = p ∧ r.feeder = d.resolved ∧
          r.substituted = d.substituted ∧ r.bindCount = 0 ∧ r.swapFlag = s.pick.exchangeNote) ∧
        (∀ p, s.pick.position = some p → s.pick.engine = .weaving → ∃ d', t.frame.slot.desc = some d' ∧
          d'.kind = .forward ∧ s.Feeds d')) ∧
    (∀ d v, s.frame.slot = .assembling d v .shifting → d.kind = .forward → exec .reformCompletion s = .next s)

/-- FRAME_READ_BURST_DONE and READBACK_BURST_DONE (R110, R111, R163, R164): the bytes of the burst join those read so
far; after the last burst of a frame its lifts are computed and staged whole (log 13), and a frame of no hooks completes
in the same step (R111, log 25), a chain of length 0 taking an empty selection (the model's choice, log 33); after the last burst of a readback the buffer is FULL with LINE READY raised; the data
of abandoned work is dropped; pattern memory is only read. The freed port is granted to the frame builder, else the load
queue, else readback, for the next 64 bytes of its line (R145, R163). A burst over a byte that nothing has written stops
by name (log 11). -/
def Obligations.ReadingBurstsDeliverTheirData : Prop :=
  ∀ (s : State) (b : Burst), s.store.port = some b →
    (b.requester = .frame → b.dropped = true → ∃ t, exec .frameReadBurstDone s = .next t ∧ t.frame = s.frame ∧
      t.store.memory = s.store.memory ∧ t.store.readback = s.store.readback ∧ t.pick = s.pick ∧
      t.store.port = t.due) ∧
    (b.requester = .readback → b.dropped = true → ∃ t, exec .readbackBurstDone s = .next t ∧ t.frame = s.frame ∧
      t.store.memory = s.store.memory ∧ t.store.readback = s.store.readback ∧ t.design = s.design ∧
      t.store.port = t.due) ∧
    (b.dropped = false → readBytes s.store.memory b.address 64 = none →
      (b.requester = .frame → exec .frameReadBurstDone s = .fault .unwrittenPatternMemory) ∧
      (b.requester = .readback → exec .readbackBurstDone s = .fault .unwrittenPatternMemory)) ∧
    (∀ data d v old d', b.requester = .frame → b.dropped = false →
      s.frame.slot = .assembling d v (.reading old) → readBytes s.store.memory b.address 64 = some data →
      d' = { d with
        bindCount := bindCount s.harness.live (s.article d.position.bank) (old ++ data) d v
        violation := violates s.harness.live (s.article d.position.bank) (old ++ data) d v } →
      ∃ t, exec .frameReadBurstDone s = .next t ∧ t.store.memory = s.store.memory ∧ t.store.port = t.due ∧
      ((old ++ data).length / 64 < lineBursts (s.article d.position.bank).width →
        t.frame = { s.frame with slot := .assembling d v (.reading (old ++ data)) } ∧ t.pick = s.pick) ∧
      (¬ (old ++ data).length / 64 < lineBursts (s.article d.position.bank).width →
        (s.harness.live.hooks ≠ 0 →
          t.frame = { s.frame with
            slot := .assembling d' v .shifting
            staged := selectionOf s.harness.live
              (deliveredLift s.harness.live (s.article d.position.bank) (old ++ data) d v) } ∧ t.pick = s.pick) ∧
        (s.harness.live.hooks = 0 → d.kind = .forward →
          t.frame.slot = .ready d' ∧ t.shaft.slackCounter = 0 ∧ t.pick = s.pick) ∧
        (s.harness.live.hooks = 0 → d.kind ≠ .forward →
          t.frame.latchedDesc = some d' ∧ t.frame.pickFeeder = .frame d.resolved ∧ t.pick.reforming = false ∧
            t.loom.flags.getLsbD 1 = true))) ∧
    (∀ data job old, b.requester = .readback → b.dropped = false → s.store.readback = .filling job old →
      readBytes s.store.memory b.address 64 = some data → ∃ t, exec .readbackBurstDone s = .next t ∧
      t.store.memory = s.store.memory ∧ t.frame = s.frame ∧ t.pick = s.pick ∧ t.store.port = t.due ∧
      ((old ++ data).length / 64 < lineBursts job.width →
        t.store.readback = .filling job (old ++ data) ∧ t.design = s.design) ∧
      (¬ (old ++ data).length / 64 < lineBursts job.width →
        t.store.readback = .full job ((old ++ data).take (lineBytes job.width)) ∧
          t.design.flags.getLsbD 6 = true))

/-- LOAD_QUEUE_BURST_DONE (R161): the burst's bytes are in pattern memory at its address and every other byte is as
before; after the entry's last burst the line is marked written with the entry's scheme, the entry leaves the front, and
QUEUE SPACE is raised where the queue was full; a dropped burst, whose bytes stand all the same (log 12), marks no line
(R162). The freed port is granted by R163. -/
def Obligations.QueueBurstWritesItsBytes : Prop :=
  ∀ (s : State) (b : Burst), s.store.port = some b → b.requester = .queue →
    ∃ t, exec .loadQueueBurstDone s = .next t ∧ t.store.port = t.due ∧
    (∀ a, a < b.address ∨ b.address + b.data.length ≤ a → readByte t.store.memory a = readByte s.store.memory a) ∧
    (∀ i, ∀ h : i < b.data.length, readByte t.store.memory (b.address + i) = some b.data[i]) ∧
    t.frame = s.frame ∧ t.pick = s.pick ∧ t.shaft = s.shaft ∧ t.harness = s.harness ∧ t.loom = s.loom ∧
    (b.dropped = true → t.store.queue = s.store.queue ∧ t.store.bankA = s.store.bankA ∧
      t.store.bankB = s.store.bankB ∧ t.design = s.design) ∧
    (b.dropped = false → ∀ e rest, s.store.queue = e :: rest →
      (e.written + 1 < (e.cells.length + 63) / 64 →
        t.store.queue = { e with written := e.written + 1 } :: rest ∧ t.store.bankA = s.store.bankA ∧
          t.store.bankB = s.store.bankB) ∧
      (¬ e.written + 1 < (e.cells.length + 63) / 64 →
        t.store.queue = rest ∧
          (∀ a, (s.bank e.bank).record = some a → e.line < a.lines.length →
            (t.article e.bank).schemeNumber e.line = some e.scheme) ∧
          (s.store.queue.length = 4 → t.design.flags.getLsbD 7 = true) ∧
          ((s.bank e.bank).state = .closing → rest = [] → t.design.flags.getLsbD 5 = true ∧
            (t.bank e.bank).closeResult = (t.article e.bank).validate ∧
            (t.bank e.bank).state = (if (t.article e.bank).validate = .ok then .ready else .opened))))

/-! ## The links -/

/-- An answered command (R182, R183, R188): the link goes to turnaround with the reply frame of R200: status, reason,
reply length of two bytes, reply data. It is sent from the third byte clocked after the command on, after two turnaround
bytes of 0, and followed by 0; with the second turnaround byte the transaction is in the reply phase, and no byte clocked
changes the reply. A REFUSED reply, and no other, writes the refusal record with the code, the reason and the detail;
flags, enables, notes, the other link and every block stay. -/
def Obligations.AnswerFormsTheReply : Prop :=
  (∀ (k : Link) (code : Byte) (r : Reply) (s : State),
    ((answer k code r s).link k).phase = .turnaround ∧ ((answer k code r s).link k).place = 0 ∧
    ((answer k code r s).link k).reply = some r.frame ∧
    (∀ (n : Nat) (l : LinkState), l = LinkState.passByte^[n] ((answer k code r s).link k) →
      l = { (answer k code r s).link k with phase := if n < 2 then .turnaround else .reply, place := n } ∧
      l.sends = if n < 2 then 0#8 else r.frame.getD (n - 2) 0#8) ∧
    (∀ reason detail, r = .refused reason detail →
      ((answer k code r s).link k).refusal = some { code := code, reason := reason, detail := detail }) ∧
    ((∀ reason detail, r ≠ .refused reason detail) → ((answer k code r s).link k).refusal = (s.link k).refusal) ∧
    ((answer k code r s).link k).flags = (s.link k).flags ∧ ((answer k code r s).link k).enables = (s.link k).enables ∧
    ((answer k code r s).link k).noteSlot = (s.link k).noteSlot ∧
    (answer k code r s).link (otherLink k) = s.link (otherLink k) ∧ (answer k code r s).shaft = s.shaft ∧
    (answer k code r s).pick = s.pick ∧ (answer k code r s).frame = s.frame ∧
    (answer k code r s).harness = s.harness ∧ (answer k code r s).store = s.store) ∧
  (∀ d : List Byte, (Reply.done d).frame =
    [0x01#8, 0x00#8, BitVec.ofNat 8 (d.length / 256), BitVec.ofNat 8 d.length] ++ d) ∧
  Reply.started.frame = [0x02#8, 0x00#8, 0x00#8, 0x00#8] ∧ Reply.busy.frame = [0x03#8, 0x00#8, 0x00#8, 0x00#8] ∧
  (∀ (reason : Reason) (detail : Detail), (Reply.refused reason detail).frame =
    [0x04#8, BitVec.ofNat 8 reason.code, 0x00#8] ++
      (match reason, detail with
        | .invalid, .slotCause i c => [0x02#8, BitVec.ofNat 8 i.val, BitVec.ofNat 8 c.code]
        | .width, .number n => [0x01#8, BitVec.ofNat 8 n]
        | _, _ => [0x00#8])) ∧
  ([Reason.unknownCommand, .wrongLink, .length, .range, .moving, .noArticle, .bankState, .bankInUse, .tooLate,
    .notClaimed, .claimed, .locked, .invalid, .width, .notLoaded, .unsynchronised].map Reason.code =
    (List.range 16).map fun n => n + 1)

/-- R185: the checks at the link in their order. A code that names no command is refused UNKNOWN COMMAND, a command of
the other link WRONG LINK, a parameter length the command cannot carry LENGTH with the length as the detail; nothing but
the reply and the refusal record of the link changes. -/
def Obligations.LinkChecksInOrder : Prop :=
  (∀ (k : Link) (code : Byte) (p : List Byte) (s : State), namesCommand code = false → s.listens k = true →
    p.length ≤ 2064 →
    exec (.unknownCommand k code p) s = .next (answer k code (.refused .unknownCommand .none) s)) ∧
  ∀ (i : Instr) (k : Link) (code : Byte) (o : Offer) (lo hi : Nat) (s : State), i.codeOf = some (k, code) →
    commandOffer i = some (o, lo, hi) → s.listens k = true → i.params.length ≤ 2064 →
    (o.on k = false → exec i s = .next (answer k code (.refused .wrongLink .none) s)) ∧
    (o.on k = true → i.params.length < lo ∨ hi < i.params.length →
      exec i s = .next (answer k code (.refused .length (.number i.params.length)) s))

/-- A declared length above 2,064 is refused at once with LENGTH and the length as the detail, whatever the code (R186);
the four bytes clocked next carry the reply and every later byte is 0; the link discards until select is released.
Release of select ends the transaction (R187), before the command is complete and after it alike: the link is idle, an
unread reply is gone, and nothing else changes, the refusal record among it. -/
def Obligations.OverLongLengthAndRelease : Prop :=
  (∀ (k : Link) (code : Byte) (n : BitVec 16) (s : State),
    (2064 < n.toNat → s.listens k = true → ∃ l : LinkState,
      exec (.overLongLength k code n) s = .next (s.setLink k l) ∧
      l = { s.link k with
        phase := .discarding, received := [], place := 0, reply := l.reply
        refusal := some { code := code, reason := .length, detail := .number n.toNat } } ∧
      ∀ (m : Nat) (x : LinkState), x = LinkState.passByte^[m] l →
        x = { l with place := m } ∧ x.sends = if m = 0 then 0x04#8 else if m = 1 then 0x03#8 else 0#8)) ∧
  (∀ (k : Link) (s : State) (l : LinkState),
    l = { s.link k with phase := .idle, received := [], place := 0, reply := none } →
    exec (.selectReleasedEarly k) s = .next (s.setLink k l) ∧ exec (.selectReleased k) s = .next (s.setLink k l))

/-- A link in turnaround, reply or discarding, and every link while a reset is applied, takes no command: the bytes are
ignored and nothing changes (R182, R183, R186, R198, log 8). Two ill-formed rows stand for no event of the part and are
refused by name, the model's choice (log 21): UNKNOWN_COMMAND with a code that names a command, and OVER_LONG_LENGTH with
a length of at most 2,064. -/
def Obligations.BusyLinkTakesNoCommand : Prop :=
  (∀ (i : Instr) (k : Link) (code : Byte) (s : State), i.wellFormed = true → i.codeOf = some (k, code) →
    s.listens k = false → exec i s = .next s) ∧
  (∀ (k : Link) (code : Byte) (n : BitVec 16) (s : State), 2064 < n.toNat → s.listens k = false →
    exec (.overLongLength k code n) s = .next s) ∧
  (∀ (k : Link) (code : Byte) (p : List Byte) (s : State), namesCommand code = true →
    exec (.unknownCommand k code p) s = .refused .codeNamesCommand) ∧
  (∀ (k : Link) (code : Byte) (n : BitVec 16) (s : State), n.toNat ≤ 2064 →
    exec (.overLongLength k code n) s = .refused .lengthNotOverLong)

/-- Every command a link takes is answered, and BUSY and REFUSED mean that nothing was done (R184): the state is then
the one before the command with only the reply and the refusal record of the link written. -/
def Obligations.RefusedAndBusyDoNothing : Prop :=
  ∀ (i : Instr) (k : Link) (code : Byte) (s : State), i.wellFormed = true → i.codeOf = some (k, code) →
    s.listens k = true → ∃ (r : Reply) (t : State), exec i s = .next t ∧ (t.link k).reply = some r.frame ∧
      (t.link k).phase = .turnaround ∧
      ((∃ reason detail, r = .refused reason detail) ∨ r = .busy → t = answer k code r s)

/-- STATUS (R197, R203): answered DONE with 77 bytes read at one moment, changing nothing but the model's count of free
values (log 10). With no position the bank byte is FFh (the model's reading of R199, log 30). -/
def Obligations.StatusBlock : Prop :=
  ∀ (k : Link) (s : State), s.listens k = true →
    exec (.status k []) s =
      .next (answer k 0x01 (.done (statusBytes k s)) { s with freeDraws := s.freeDraws + 1 }) ∧
    (statusBytes k s).length = 77 ∧
    (statusBytes k s).getD 0 0#8 = BitVec.ofNat 8 (s.shaft.angle / 256) ∧
    (statusBytes k s).getD 1 0#8 = BitVec.ofNat 8 s.shaft.angle ∧
    (statusBytes k s).getD 2 0#8 = BitVec.ofNat 8 s.shaft.reference.code ∧
    (statusBytes k s).getD 4 0#8 = BitVec.ofNat 8 s.shaft.motion.code ∧
    (statusBytes k s).getD 9 0#8 = BitVec.ofNat 8 s.pick.engine.code ∧
    (s.pick.position = none → (statusBytes k s).getD 10 0#8 = 0xFF#8) ∧
    (statusBytes k s).getD 17 0#8 = BitVec.ofNat 8 (s.pick.counter / 16777216) ∧
    (statusBytes k s).getD 20 0#8 = BitVec.ofNat 8 s.pick.counter ∧
    (statusBytes k s).getD 25 0#8 = BitVec.ofNat 8 (flag s.pick.fault.isSome) ∧
    (statusBytes k s).getD 27 0#8 = BitVec.ofNat 8 (flag s.pick.stopRequest) ∧
    (statusBytes k s).getD 28 0#8 = BitVec.ofNat 8 s.frame.slot.code ∧
    (s.frame.slot = .empty → ((statusBytes k s).drop 30).take 6 = [0xFF#8, 0, 0, 0, 0, 0]) ∧
    (statusBytes k s).getD 43 0#8 = BitVec.ofNat 8 (feederCode s.frame.output) ∧
    (statusBytes k s).getD 60 0#8 = BitVec.ofNat 8 s.store.bankA.state.code ∧
    (statusBytes k s).getD 61 0#8 = BitVec.ofNat 8 s.store.bankB.state.code ∧
    (statusBytes k s).getD 62 0#8 = BitVec.ofNat 8 s.store.queue.length ∧
    (statusBytes k s).getD 64 0#8 = BitVec.ofNat 8 (flag (s.link k).refusal.isSome) ∧
    (statusBytes k s).getD 71 0#8 = (s.link k).flags.extractLsb' 8 8 ∧
    (statusBytes k s).getD 72 0#8 = (s.link k).flags.extractLsb' 0 8 ∧
    (statusBytes k s).getD 75 0#8 = BitVec.ofNat 8 (flag (s.link k).noteSlot.isSome)

/-- READ EVENTS, CLEAR EVENTS and SET ENABLES (R193, R194): flags and enables are returned unchanged, the marked flags
are cleared with the note slot emptied where NOTE is marked (R196), all sixteen enables are written, and the attention
output follows at once. NOTE and READ NOTE (R195, R196): a full slot of the other link answers BUSY; an empty one takes
the value and raises that link's NOTE flag with its attention; READ NOTE returns the value, empties the slot and clears
the flag, or marks that no note is held. -/
def Obligations.EventAndNoteCommands : Prop :=
  (∀ (k : Link) (a b : Byte) (s : State), s.listens k = true →
    exec (.readEvents k []) s = .next (answer k 0x02 (.done
      [(s.link k).flags.extractLsb' 8 8, (s.link k).flags.extractLsb' 0 8, (s.link k).enables.extractLsb' 8 8,
        (s.link k).enables.extractLsb' 0 8]) s) ∧
    exec (.setEnables k [a, b]) s = .next (answer k 0x04 (.done []) (s.setLink k { s.link k with
      enables := a ++ b, attention := ((s.link k).flags &&& (a ++ b)) != 0#16 })) ∧
    exec (.clearEvents k [a, b]) s = .next (answer k 0x03 (.done []) (s.setLink k { s.link k with
      flags := (s.link k).flags &&& ~~~(a ++ b)
      attention := (((s.link k).flags &&& ~~~(a ++ b)) &&& (s.link k).enables) != 0#16
      noteSlot :=
        if (a ++ b).getLsbD (match k with | .loom => 7 | .design => 8) then none else (s.link k).noteSlot }))) ∧
  (∀ (k : Link) (v : Byte) (s : State), s.listens k = true →
    ((s.link (otherLink k)).noteSlot.isSome = true → exec (.note k [v]) s = .next (answer k 0x05 .busy s)) ∧
    ((s.link (otherLink k)).noteSlot = none → exec (.note k [v]) s = .next (answer k 0x05 (.done [])
      (s.setLink (otherLink k) { s.link (otherLink k) with
        noteSlot := some v
        flags := (s.link (otherLink k)).flags ||| (match k with | .loom => 0x100#16 | .design => 0x80#16)
        attention := (((s.link (otherLink k)).flags ||| (match k with | .loom => 0x100#16 | .design => 0x80#16)) &&&
          (s.link (otherLink k)).enables) != 0#16 }))) ∧
    (∀ w, (s.link k).noteSlot = some w → exec (.readNote k []) s = .next (answer k 0x06 (.done [0x01#8, w])
      (s.setLink k { s.link k with
        noteSlot := none
        flags := (s.link k).flags &&& ~~~(match k with | .loom => 0x80#16 | .design => 0x100#16)
        attention := (((s.link k).flags &&& ~~~(match k with | .loom => 0x80#16 | .design => 0x100#16)) &&&
          (s.link k).enables) != 0#16 }))) ∧
    ((s.link k).noteSlot = none → exec (.readNote k []) s = .next (answer k 0x06 (.done [0#8, 0#8]) s)))

/-- READ HISTORY, READ FAULT, READ HARNESS, READ ARTICLE, READ FRAME and FETCH LINE change nothing but the reply
(R50, R118, R142, R166, R167, R175). READ HISTORY's reply is the record count and then the records newest first, the
newest laid out by R202; READ FAULT's is laid out by R204, for an empty record and for one with or without a position;
READ ARTICLE's by R204 for an EMPTY bank and for a record, with the close result and its details and the sets of schemes,
weaves and feeder entries; READ FRAME's by R204, with or without a latched frame, the first byte telling whether a chain
holds a selection (that a chain of length 0 holds one after a latch, and so every chain where H = 0, is the model's choice,
log 33); FETCH LINE's by its chapter. READ HARNESS answers with the model's layout of the table asked for, LIVE or the shadow of
the claim's holder, and refuses a shadow the link does not hold and a choice above 1. -/
def Obligations.ReadCommandsOnlyRead : Prop :=
  ∀ (k : Link) (s : State),
    (s.listens k = true → ∃ d, exec (.readHistory k []) s = .next (answer k 0x07 (.done d) s) ∧
      d.length = 1 + 16 * s.pick.history.length ∧ d.getD 0 0#8 = BitVec.ofNat 8 s.pick.history.length ∧
      ∀ r rest, s.pick.history = r :: rest → (d.drop 1).take 16 =
        [BitVec.ofNat 8 r.kind.code, BitVec.ofNat 8 (r.counter / 16777216), BitVec.ofNat 8 (r.counter / 65536),
          BitVec.ofNat 8 (r.counter / 256), BitVec.ofNat 8 r.counter, BitVec.ofNat 8 (bankCode r.position.bank),
          BitVec.ofNat 8 (r.position.line / 256), BitVec.ofNat 8 r.position.line, BitVec.ofNat 8 r.position.step,
          BitVec.ofNat 8 (r.position.rep / 256), BitVec.ofNat 8 r.position.rep, BitVec.ofNat 8 r.system.val,
          BitVec.ofNat 8 (feederCode r.feeder),
          BitVec.ofNat 8 ((if r.substituted then 1 else 0) + (if r.swapFlag then 2 else 0)),
          BitVec.ofNat 8 (r.bindCount / 256), BitVec.ofNat 8 r.bindCount]) ∧
    (s.listens k = true → ∃ d, exec (.readFault k []) s = .next (answer k 0x08 (.done d) s) ∧ d.length = 17 ∧
      (s.pick.fault = none → ∀ i, d.getD i 0#8 = if i = 7 then 0xFF#8 else 0#8) ∧
      (∀ f, s.pick.fault = some f → d.take 16 =
        [0x01#8, BitVec.ofNat 8 f.kind.code, BitVec.ofNat 8 f.cause.code, BitVec.ofNat 8 (f.counter / 16777216),
          BitVec.ofNat 8 (f.counter / 65536), BitVec.ofNat 8 (f.counter / 256), BitVec.ofNat 8 f.counter] ++
        (match f.position with
          | some q => [BitVec.ofNat 8 (bankCode q.bank), BitVec.ofNat 8 (q.line / 256), BitVec.ofNat 8 q.line,
              BitVec.ofNat 8 q.step, BitVec.ofNat 8 (q.rep / 256), BitVec.ofNat 8 q.rep]
          | none => [0xFF#8, 0#8, 0#8, 0#8, 0#8, 0#8]) ++
        [BitVec.ofNat 8 (f.angle / 256), BitVec.ofNat 8 f.angle, BitVec.ofNat 8 f.laterCount] ∧
        ∀ i, i < 8 → (d.getD 16 0#8).getLsbD i =
          (match i with
            | 0 => f.laterKinds.lateFrame
            | 1 => f.laterKinds.weftUnavailable
            | 2 => f.laterKinds.shaftLost
            | 3 => f.laterKinds.floatLimit
            | _ => false))) ∧
    (s.listens k = true → exec (.readHarness k [0#8]) s =
      .next (answer k 0x0F (.done (readHarnessBytes s.harness s.harness.live)) s)) ∧
    (s.listens k = true → ∀ t, s.shadowOf k = some t → exec (.readHarness k [1#8]) s =
      .next (answer k 0x0F (.done (readHarnessBytes s.harness t)) s)) ∧
    (s.listens k = true → s.shadowOf k = none → exec (.readHarness k [1#8]) s =
      .next (answer k 0x0F (.refused .notClaimed .none) s)) ∧
    (s.listens k = true → ∀ c : Byte, 1 < c.toNat → exec (.readHarness k [c]) s =
      .next (answer k 0x0F (.refused .range (.number 0)) s)) ∧
    (s.listens k = true → ∀ b : BankId, ∃ d, exec (.readArticle k [BitVec.ofNat 8 (bankCode b)]) s =
      .next (answer k 0x10 (.done d) s) ∧ d.length = 18 ∧ d.getD 0 0#8 = BitVec.ofNat 8 (s.bank b).state.code ∧
      ((s.bank b).state = .empty → d = List.replicate 18 0#8) ∧
      ∀ a, (s.bank b).state ≠ .empty → (s.bank b).record = some a →
        (d.drop 1).take 4 =
          (match (s.bank b).closeResult with
            | .none => [0#8, 0#8, 0#8, 0#8]
            | .ok => [1#8, 0#8, 0#8, 0#8]
            | .linesMissing l => [2#8, BitVec.ofNat 8 (l / 256), BitVec.ofNat 8 l, 0#8]
            | .schemeUndefined n => [3#8, 0#8, BitVec.ofNat 8 n.val, 0#8]
            | .weaveUndefined ws e => [4#8, 0#8, BitVec.ofNat 8 ws.val, BitVec.ofNat 8 e.val]
            | .feederUndefined ws => [5#8, 0#8, BitVec.ofNat 8 ws.val, 0#8]) ∧
        (d.drop 5).take 7 =
          [BitVec.ofNat 8 (a.width / 256), BitVec.ofNat 8 a.width, BitVec.ofNat 8 (a.height / 256),
            BitVec.ofNat 8 a.height, BitVec.ofNat 8 a.face.code, BitVec.ofNat 8 (a.linesWritten / 256),
            BitVec.ofNat 8 a.linesWritten] ∧
        (∀ n : Fin 8, (d.getD 12 0#8).getLsbD n.val = (a.schemes[n]).isSome ∧
          (d.getD 17 0#8).getLsbD n.val = (a.feeders[n]).isSome) ∧
        ∀ (ws : Fin 8) (e : Fin 4),
          (d.getD (16 - (4 * ws.val + e.val) / 8) 0#8).getLsbD ((4 * ws.val + e.val) % 8) =
            ((a.weaves[ws])[e]).isSome) ∧
    (s.listens .loom = true → ∀ p : List Byte, p.length = 2 → wordAt p 0 ≤ 12287 →
      ∃ d, exec (.readFrame .loom p) s = .next (answer .loom 0x35 (.done d) s) ∧ d.length = 35 ∧
      ((∀ c : Fin 8, s.frame.latched[c] = none) → d.getD 0 0#8 = 0#8) ∧
      ((∃ c : Fin 8, s.frame.latched[c] ≠ none) → d.getD 0 0#8 = 1#8) ∧
      (s.frame.latchedDesc = none → (d.drop 1).take 18 = [0#8, 0#8, 0#8, 0xFF#8] ++ List.replicate 12 0#8 ++
        [BitVec.ofNat 8 (s.harness.live.hooks / 256), BitVec.ofNat 8 s.harness.live.hooks]) ∧
      (∀ x, s.frame.latchedDesc = some x → (d.drop 1).take 18 =
        [BitVec.ofNat 8 x.kind.code, BitVec.ofNat 8 (match x.kind with | .forward => 0 | .reform c => c.code),
          BitVec.ofNat 8 (flag x.level), BitVec.ofNat 8 (bankCode x.position.bank),
          BitVec.ofNat 8 (x.position.line / 256), BitVec.ofNat 8 x.position.line, BitVec.ofNat 8 x.position.step,
          BitVec.ofNat 8 (x.position.rep / 256), BitVec.ofNat 8 x.position.rep,
          BitVec.ofNat 8 (x.pickValue / 16777216), BitVec.ofNat 8 (x.pickValue / 65536),
          BitVec.ofNat 8 (x.pickValue / 256), BitVec.ofNat 8 x.pickValue, BitVec.ofNat 8 (feederCode x.resolved),
          BitVec.ofNat 8 (x.bindCount / 256), BitVec.ofNat 8 x.bindCount,
          BitVec.ofNat 8 (s.harness.live.hooks / 256), BitVec.ofNat 8 s.harness.live.hooks]) ∧
      ∀ i, i < 128 →
        (d.getD (19 + i / 8) 0#8).getLsbD (i % 8) = hookLift s.frame.latched s.harness.live (wordAt p 0 + i)) ∧
    (s.listens .loom = true → ∀ p : List Byte, p.length = 2 → 12287 < wordAt p 0 →
      exec (.readFrame .loom p) s = .next (answer .loom 0x35 (.refused .range (.number 0)) s)) ∧
    (s.listens .design = true → ∀ job cells, s.store.readback = .full job cells → exec (.fetchLine .design []) s =
      .next (answer .design 0x4B (.done
        ([BitVec.ofNat 8 (bankCode job.bank), BitVec.ofNat 8 (job.line / 256), BitVec.ofNat 8 job.line,
          BitVec.ofNat 8 job.scheme.val] ++ cells)) s)) ∧
    (s.listens .design = true → s.store.readback = .empty →
      exec (.fetchLine .design []) s = .next (answer .design 0x4B (.refused .notLoaded .none) s))

/-! ## The harness -/

/-- CLAIM HARNESS by the first case that applies (R130), DISCARD HARNESS (R138), BREAK CLAIM (R139): the shadow starts
as the live table, a release drops it and raises CLAIM FREED on the link that did not hold the claim, BREAK CLAIM on the
design link. LOCK KEEP, UNLOCK and LOCK FIXED (R140, R141) are answered DONE whatever the lock held, change their lock
alone, and UNLOCK leaves FIXED. Every other field stays. -/
def Obligations.HarnessClaimAndLockCommands : Prop :=
  ∀ (k : Link) (s : State),
    (s.listens k = true → (s.shadowOf k).isSome = true →
      exec (.claimHarness k []) s = .next (answer k 0x09 (.done []) s)) ∧
    (s.listens k = true → s.shadowOf k = none → (s.harness.keep || s.harness.fixed) = true →
      exec (.claimHarness k []) s = .next (answer k 0x09 (.refused .locked .none) s)) ∧
    (s.listens k = true → s.shadowOf k = none → (s.harness.keep || s.harness.fixed) = false →
      s.harness.claim.isSome = true →
      exec (.claimHarness k []) s = .next (answer k 0x09 (.refused .claimed .none) s)) ∧
    (s.listens k = true → (s.harness.keep || s.harness.fixed) = false → s.harness.claim = none →
      exec (.claimHarness k []) s = .next (answer k 0x09 (.done [])
        { s with harness.claim := some { owner := k, shadow := s.harness.live } })) ∧
    (s.listens k = true → s.shadowOf k = none →
      exec (.discardHarness k []) s = .next (answer k 0x0E (.refused .notClaimed .none) s)) ∧
    (s.listens k = true → (s.shadowOf k).isSome = true →
      exec (.discardHarness k []) s = .next (answer k 0x0E (.done [])
        (raise (otherLink k) .claimFreed { s with harness.claim := none }))) ∧
    (s.listens .loom = true → s.harness.claim.isSome = true →
      exec (.breakClaim .loom []) s = .next (answer .loom 0x34 (.done [])
        (raise .design .claimFreed { s with harness.claim := none }))) ∧
    (s.listens .loom = true → s.harness.claim = none →
      exec (.breakClaim .loom []) s = .next (answer .loom 0x34 (.done []) s)) ∧
    (s.listens .loom = true →
      exec (.lockKeep .loom []) s = .next (answer .loom 0x31 (.done []) { s with harness.keep := true }) ∧
      exec (.unlock .loom []) s = .next (answer .loom 0x32 (.done []) { s with harness.keep := false }) ∧
      exec (.lockFixed .loom []) s = .next (answer .loom 0x33 (.done []) { s with harness.fixed := true }))

/-- WRITE CHAIN, WRITE SECTION and WRITE SELVAGE (R131–R133): NOT CLAIMED unless the sending link holds the claim; RANGE
with the first failing field, which for a first hook and a count that pass 12,287 together is the count, and for a first
column and a width that pass 8,191 together the width (the model's choice, log 18); the ranges of the first hook and the
count hold for SELVAGE and DEAD as for FIGURE (the model's choice, log 36); LENGTH for a grid of the wrong size;
else the one entry of the shadow is written and the live table and everything else stay. -/
def Obligations.ShadowEdits : Prop :=
  ∀ (k : Link) (p : List Byte) (s : State), s.listens k = true →
    (s.shadowOf k = none →
      (p.length = 4 → exec (.writeChain k p) s = .next (answer k 0x0A (.refused .notClaimed .none) s)) ∧
      (p.length = 11 → exec (.writeSection k p) s = .next (answer k 0x0B (.refused .notClaimed .none) s)) ∧
      (3 ≤ p.length → p.length ≤ 35 →
        exec (.writeSelvage k p) s = .next (answer k 0x0C (.refused .notClaimed .none) s))) ∧
    (∀ t, s.shadowOf k = some t → p.length = 4 →
      (7 < byteAt p 0 → exec (.writeChain k p) s = .next (answer k 0x0A (.refused .range (.number 0)) s)) ∧
      (byteAt p 0 ≤ 7 → 1536 < wordAt p 1 →
        exec (.writeChain k p) s = .next (answer k 0x0A (.refused .range (.number 1)) s)) ∧
      (∀ c : Fin 8, byteAt p 0 = c.val → wordAt p 1 ≤ 1536 →
        exec (.writeChain k p) s = .next (answer k 0x0A (.done []) { s with
          harness.claim := some
            { owner := k
              shadow := { t with
                chains := t.chains.set c
                  { length := wordAt p 1, enabled := (p.getD 3 0#8).getLsbD 0, ignoreRA := (p.getD 3 0#8).getLsbD 1,
                    ignoreRB := (p.getD 3 0#8).getLsbD 2 } } } }))) ∧
    (∀ t, s.shadowOf k = some t → p.length = 11 →
      (15 < byteAt p 0 → exec (.writeSection k p) s = .next (answer k 0x0B (.refused .range (.number 0)) s)) ∧
      (byteAt p 0 ≤ 15 → 3 < byteAt p 1 →
        exec (.writeSection k p) s = .next (answer k 0x0B (.refused .range (.number 1)) s)) ∧
      ∀ i : Fin 16, byteAt p 0 = i.val →
        (byteAt p 1 = 0 → exec (.writeSection k p) s = .next (answer k 0x0B (.done []) { s with
          harness.claim := some { owner := k, shadow := { t with sections := t.sections.set i none } } })) ∧
        (∀ mode, byteAt p 1 = 1 → 1 ≤ wordAt p 4 → wordAt p 2 + wordAt p 4 - 1 ≤ 12287 → 1 ≤ wordAt p 8 →
          wordAt p 6 + wordAt p 8 - 1 ≤ 8191 → byteAt p 10 = (match mode with | .straight => 0 | .point => 1) →
          exec (.writeSection k p) s = .next (answer k 0x0B (.done []) { s with
            harness.claim := some { owner := k, shadow := { t with
              sections := t.sections.set i (some
                { first := wordAt p 2, count := wordAt p 4,
                  kind := .figure (wordAt p 6) (wordAt p 8) mode }) } } })) ∧
        (∀ j : Fin 4, byteAt p 1 = 2 → 1 ≤ wordAt p 4 → wordAt p 2 + wordAt p 4 - 1 ≤ 12287 → byteAt p 10 = j.val →
          exec (.writeSection k p) s = .next (answer k 0x0B (.done []) { s with
            harness.claim := some { owner := k, shadow := { t with
              sections := t.sections.set i (some
                { first := wordAt p 2, count := wordAt p 4, kind := .selvage j }) } } })) ∧
        (byteAt p 1 = 3 → 1 ≤ wordAt p 4 → wordAt p 2 + wordAt p 4 - 1 ≤ 12287 →
          exec (.writeSection k p) s = .next (answer k 0x0B (.done []) { s with
            harness.claim := some { owner := k, shadow := { t with
              sections := t.sections.set i (some
                { first := wordAt p 2, count := wordAt p 4, kind := .dead }) } } })) ∧
        (∀ kind, byteAt p 1 = kind → 1 ≤ kind → kind ≤ 3 →
          (12287 < wordAt p 2 → exec (.writeSection k p) s = .next (answer k 0x0B (.refused .range (.number 2)) s)) ∧
          (wordAt p 2 ≤ 12287 → wordAt p 4 = 0 ∨ 12287 < wordAt p 2 + wordAt p 4 - 1 →
            exec (.writeSection k p) s = .next (answer k 0x0B (.refused .range (.number 3)) s)) ∧
          (1 ≤ wordAt p 4 → wordAt p 2 + wordAt p 4 - 1 ≤ 12287 →
            (kind = 1 → 8191 < wordAt p 6 →
              exec (.writeSection k p) s = .next (answer k 0x0B (.refused .range (.number 4)) s)) ∧
            (kind = 1 → wordAt p 6 ≤ 8191 → wordAt p 8 = 0 ∨ 8191 < wordAt p 6 + wordAt p 8 - 1 →
              exec (.writeSection k p) s = .next (answer k 0x0B (.refused .range (.number 5)) s)) ∧
            (kind = 1 → 1 ≤ wordAt p 8 → wordAt p 6 + wordAt p 8 - 1 ≤ 8191 → 1 < byteAt p 10 →
              exec (.writeSection k p) s = .next (answer k 0x0B (.refused .range (.number 6)) s)) ∧
            (kind = 2 → 3 < byteAt p 10 →
              exec (.writeSection k p) s = .next (answer k 0x0B (.refused .range (.number 6)) s))))) ∧
    (∀ t, s.shadowOf k = some t → 3 ≤ p.length → p.length ≤ 35 →
      (3 < byteAt p 0 → exec (.writeSelvage k p) s = .next (answer k 0x0C (.refused .range (.number 0)) s)) ∧
      ∀ j : Fin 4, byteAt p 0 = j.val →
        (byteAt p 1 = 0 → byteAt p 2 = 0 → p.length = 3 →
          exec (.writeSelvage k p) s = .next (answer k 0x0C (.done []) { s with
            harness.claim := some { owner := k, shadow := { t with selvages := t.selvages.set j none } } })) ∧
        (byteAt p 1 = 0 → byteAt p 2 = 0 → p.length ≠ 3 →
          exec (.writeSelvage k p) s = .next (answer k 0x0C (.refused .length (.number 3)) s)) ∧
        ((byteAt p 1 = 0 ∧ byteAt p 2 ≠ 0) ∨ 16 < byteAt p 1 →
          exec (.writeSelvage k p) s = .next (answer k 0x0C (.refused .range (.number 1)) s)) ∧
        (1 ≤ byteAt p 1 → byteAt p 1 ≤ 16 → byteAt p 2 = 0 ∨ 16 < byteAt p 2 →
          exec (.writeSelvage k p) s = .next (answer k 0x0C (.refused .range (.number 2)) s)) ∧
        (1 ≤ byteAt p 1 → byteAt p 1 ≤ 16 → 1 ≤ byteAt p 2 → byteAt p 2 ≤ 16 →
          (p.length = 3 + byteAt p 2 * ((byteAt p 1 + 7) / 8) →
            ∃ g : Grid, exec (.writeSelvage k p) s = .next (answer k 0x0C (.done []) { s with
              harness.claim := some { owner := k, shadow := { t with selvages := t.selvages.set j (some g) } } }) ∧
            g.width = byteAt p 1 ∧ g.height = byteAt p 2 ∧
            ∀ row col, row < g.height → col < g.width → g.bit row col =
              (p.getD (3 + (row * ((byteAt p 1 + 7) / 8) + col / 8)) 0#8).getLsbD (col % 8)) ∧
          (p.length ≠ 3 + byteAt p 2 * ((byteAt p 1 + 7) / 8) →
            exec (.writeSelvage k p) s = .next (answer k 0x0C (.refused .length (.number 3)) s))))

/-- COMMIT HARNESS: the four checks in the order of R134, the last the validation of R135: the lowest slot that fails
decides, and in it the first of the four tests that fails, with the cause of that test (a shadow with no hooks and a used
slot fails it, the model's choice, log 34). The effects of R136: the live table becomes the shadow,
the claim is released, the committed state is cleared, the chains keep their latched selection position by position
while an article weaves, a new position not lifted, a chain that held none holding none, and hold none otherwise (R117),
the drivers follow, CLAIM FREED is raised on the other link; with
an article weaving, the shaft REFERENCED and hooks to shift a re-form with the cause REFORM is pending, and with the
shaft not REFERENCED the owed cause is REFORM. Position, counter, banks and drive settings stay. -/
def Obligations.CommitHarnessChecksAndEffects : Prop :=
  ∀ (k : Link) (s : State), s.listens k = true →
    (s.shadowOf k = none → exec (.commitHarness k []) s = .next (answer k 0x0D (.refused .notClaimed .none) s)) ∧
    ∀ t, s.shadowOf k = some t →
      ((s.harness.keep || s.harness.fixed) = true →
        exec (.commitHarness k []) s = .next (answer k 0x0D (.refused .locked .none) s)) ∧
      ((s.harness.keep || s.harness.fixed) = false → s.pick.engine ≠ .noArticle → s.shaft.motion ≠ .still →
        exec (.commitHarness k []) s = .next (answer k 0x0D (.refused .moving .none) s)) ∧
      ((s.harness.keep || s.harness.fixed) = false → (s.pick.engine ≠ .noArticle → s.shaft.motion = .still) →
        ∀ W, W = (if s.pick.engine = .noArticle then none
          else s.pick.position.map fun p => (s.article p.bank).width) →
        (∀ i c, t.Fails W i c → (∀ j, j < i → ∀ x, ¬ t.Fails W j x) →
          exec (.commitHarness k []) s = .next (answer k 0x0D (.refused .invalid (.slotCause i c)) s)) ∧
        ((∀ i c, ¬ t.Fails W i c) → ∃ u, exec (.commitHarness k []) s = .next (answer k 0x0D (.done []) u) ∧
          t.Sound ∧ u.harness.live = t ∧ u.harness.claim = none ∧ u.frame.committed = [] ∧ u.DriversFollow ∧
          (match k with
            | .loom => u.design.flags.getLsbD 10 = true
            | .design => u.loom.flags.getLsbD 13 = true) ∧
          u.pick.position = s.pick.position ∧ u.pick.counter = s.pick.counter ∧ u.pick.engine = s.pick.engine ∧
          u.harness.drive = s.harness.drive ∧ u.frame.alternation = s.frame.alternation ∧
          (s.pick.engine = .noArticle → u.frame.latched = Vector.replicate 8 none ∧ u.frame.slot = s.frame.slot ∧
            u.store = s.store) ∧
          (s.pick.engine ≠ .noArticle → t.hooks ≠ 0 →
            (∀ c : Fin 8, (s.frame.latched[c] = none → u.frame.latched[c] = none) ∧
              ∀ l, s.frame.latched[c] = some l → ∃ l', u.frame.latched[c] = some l' ∧
                l'.length = (t.chains[c]).length ∧ ∀ j, j < l'.length → l'.getD j false = l.getD j false) ∧
            u.harness.stage = s.harness.stage ∧
            u.pick.history = s.pick.history ∧ u.store.bankA = s.store.bankA ∧ u.store.bankB = s.store.bankB ∧
            (s.shaft.reference ≠ .referenced → u.frame.owed = some .reform) ∧
            (s.shaft.reference = .referenced → ∀ p, s.pick.position = some p → u.Holds (.reform .reform) p))))

/-! ## The loom link's commands -/

/-- CLEAR FAULT (R174): the record is emptied, the stop request stays only for UNSYNCHRONISED, and no event flag and
nothing else changes. RESYNC (R13, R178): NO ARTICLE refused, DONE without effect in WEAVING, MOVING refused; else the
shaft becomes UNREFERENCED with no loss cause, angle, d and settings kept, the engine WEAVING, the owed re-form stays
owed, the drivers are re-evaluated and the stop request follows; the fault record stays. -/
def Obligations.ClearFaultAndResync : Prop :=
  (∀ s : State, s.listens .loom = true →
    exec (.clearFault .loom []) s = .next (answer .loom 0x20 (.done [])
      { s with pick := { s.pick with fault := none, stopRequest := s.pick.engine == .unsynchronised } })) ∧
  (∀ s : State, s.listens .loom = true →
    (s.pick.engine = .noArticle →
      exec (.resync .loom []) s = .next (answer .loom 0x28 (.refused .noArticle .none) s)) ∧
    (s.pick.engine = .weaving → exec (.resync .loom []) s = .next (answer .loom 0x28 (.done []) s)) ∧
    (s.pick.engine = .unsynchronised → s.shaft.motion ≠ .still →
      exec (.resync .loom []) s = .next (answer .loom 0x28 (.refused .moving .none) s)) ∧
    (s.pick.engine = .unsynchronised → s.shaft.motion = .still → ∃ t,
      exec (.resync .loom []) s = .next (answer .loom 0x28 (.done []) t) ∧
      t.shaft = { s.shaft with reference := .unreferenced, cause := .none, speed := 0 } ∧
      t.pick = { s.pick with engine := .weaving, stopRequest := s.pick.fault.isSome } ∧ t.frame = s.frame ∧
      t.store = s.store ∧ t.loom = s.loom ∧ t.design = s.design ∧ t.DriversFollow ∧
      t.harness = { s.harness with driversOn := t.harness.driversOn, levels := t.harness.levels }))

/-- The checks of R42 in their order for STEP BACK, STEP FORWARD, SET POSITION and SWAP NOW, which are also those of
UNLOAD (R46): NO ARTICLE, UNSYNCHRONISED, MOVING. A refused command changes nothing but the refusal record. -/
def Obligations.PositionCommandsRefusedInOrder : Prop :=
  ∀ (i : Instr) (code : Byte) (s : State), s.listens .loom = true →
    ((∃ n, i = .stepBack .loom [n]) ∨ (∃ n, i = .stepForward .loom [n]) ∨
      (∃ p : List Byte, p.length = 5 ∧ i = .setPosition .loom p) ∨ i = .swapNow .loom [] ∨ i = .unload .loom []) →
    i.codeOf = some (.loom, code) →
    (s.pick.engine = .noArticle → exec i s = .next (answer .loom code (.refused .noArticle .none) s)) ∧
    (s.pick.engine = .unsynchronised → exec i s = .next (answer .loom code (.refused .unsynchronised .none) s)) ∧
    (s.pick.engine = .weaving → s.shaft.motion ≠ .still →
      exec i s = .next (answer .loom code (.refused .moving .none) s))

/-- STEP BACK n and STEP FORWARD n with the loom at rest (R42, R43): n is taken into 1–64; BUSY while re-forming; else
the position moves n picks by resolution, the counter by n within its ends (R31), the speed measurement is cancelled
(R17), and a re-form with the cause STEP starts or is owed (R106, R107). One pick forward goes to the next step, else to
the next line, else it is a wrap: a swap where the other bank is ARMED and fits, else the first pick with one repeat more,
an ARMED bank that does not fit becoming READY with SWAP REFUSED (R24, R35–R37). One pick back goes to the step before,
else to the last step of the line before, else to the last pick of the repeat with one repeat less, or from (0, 0, 0)
beside a RETIRED bank undoes the swap, which the width check may refuse (R25, R40). -/
def Obligations.StepCommandsMoveThePosition : Prop :=
  ∀ (b : Byte) (n : Nat) (s : State) (p : Position), n = max 1 (min 64 b.toNat) → s.listens .loom = true →
    s.Movable → s.pick.position = some p →
    (s.pick.reforming = true →
      exec (.stepBack .loom [b]) s = .next (answer .loom 0x21 .busy s) ∧
      exec (.stepForward .loom [b]) s = .next (answer .loom 0x22 .busy s)) ∧
    (s.pick.reforming = false → ∃ t u,
      exec (.stepBack .loom [b]) s = .next (answer .loom 0x21 (.done []) t) ∧
      exec (.stepForward .loom [b]) s = .next (answer .loom 0x22 (.done []) u) ∧
      t.pick.counter = s.pick.counter - n ∧ u.pick.counter = min (s.pick.counter + n) 4294967295 ∧
      t.pick.position = (backwardMoves n s).pick.position ∧ u.pick.position = (forwardMoves n s).pick.position ∧
      (n ≤ p.step → t.pick.position = some { p with step := p.step - n }) ∧
      (p.step + n < (s.article p.bank).len p.line → u.pick.position = some { p with step := p.step + n }) ∧
      (n = 1 → (s.article p.bank).len p.line ≤ p.step + 1 →
        (p.line + 1 < (s.article p.bank).height → u.pick.position = some { p with line := p.line + 1, step := 0 }) ∧
        ((s.article p.bank).height ≤ p.line + 1 →
          ((s.bank (otherBank p.bank)).state = .armed → s.fits (otherBank p.bank) = true → u.Swapped p ∧
            u.frame.alternation = Vector.replicate 8 .primaryNext ∧ u.frame.committed = []) ∧
          ((s.bank (otherBank p.bank)).state ≠ .armed ∨ s.fits (otherBank p.bank) = false →
            u.pick.position = some { bank := p.bank, line := 0, step := 0, rep := min (p.rep + 1) 65535 } ∧
            u.loom.flags.getLsbD 2 = true ∧ u.design.flags.getLsbD 1 = true) ∧
          ((s.bank (otherBank p.bank)).state = .armed → s.fits (otherBank p.bank) = false →
            (u.bank (otherBank p.bank)).state = .ready ∧ u.loom.flags.getLsbD 4 = true ∧
            u.design.flags.getLsbD 3 = true))) ∧
      (n = 1 → p.step = 0 →
        (p.line ≠ 0 → t.pick.position = some
          { p with line := p.line - 1, step := (s.article p.bank).len (p.line - 1) - 1 }) ∧
        (p.line = 0 → p.rep ≠ 0 ∨ (s.bank (otherBank p.bank)).state ≠ .retired → t.pick.position = some
          { bank := p.bank, line := (s.article p.bank).height - 1,
            step := (s.article p.bank).len ((s.article p.bank).height - 1) - 1, rep := p.rep - 1 }) ∧
        (∀ r, p.line = 0 → p.rep = 0 → (s.bank (otherBank p.bank)).state = .retired →
          ((s.bank (otherBank p.bank)).record.bind (·.retained)) = some r →
          (s.fits (otherBank p.bank) = true →
            t.pick.position = some { bank := otherBank p.bank, line := r.line, step := r.step, rep := r.rep } ∧
            (t.bank (otherBank p.bank)).state = .weaving ∧
            ((t.bank (otherBank p.bank)).record.bind (·.retained)) = none ∧
            (s.shaft.reference ≠ .referenced ∨ s.harness.live.hooks ≠ 0 → (t.bank p.bank).state = .armed) ∧
            t.frame.alternation = Vector.replicate 8 .primaryNext ∧ t.frame.committed = [] ∧
            t.loom.flags.getLsbD 5 = true ∧ t.design.flags.getLsbD 4 = true) ∧
          (s.fits (otherBank p.bank) = false →
            t.pick.position = some
              { bank := p.bank, line := (s.article p.bank).height - 1,
                step := (s.article p.bank).len ((s.article p.bank).height - 1) - 1, rep := 0 } ∧
            t.loom.flags.getLsbD 4 = true ∧ t.design.flags.getLsbD 3 = true))) ∧
      ∀ x, x = t ∨ x = u → x.shaft.speed = 0 ∧ x.shaft.measuring = false ∧ x.shaft.intervalRunning = false ∧
        x.shaft.angle = s.shaft.angle ∧ x.shaft.offset = s.shaft.offset ∧ x.shaft.timing = s.shaft.timing ∧
        x.pick.target = s.pick.target ∧ x.harness.live = s.harness.live ∧ x.harness.drive = s.harness.drive ∧
        x.frame.available = s.frame.available ∧ x.frame.guard = s.frame.guard ∧
        x.store.memory = s.store.memory ∧ x.store.queue = s.store.queue ∧
        (s.shaft.reference ≠ .referenced → x.frame.owed = some .step) ∧
        (s.shaft.reference = .referenced → s.harness.live.hooks ≠ 0 → x.frame.output = s.frame.output ∧
          x.frame.latched = s.frame.latched ∧ x.pick.history = s.pick.history ∧ x.pick.reforming = true ∧
          ∃ q, x.pick.position = some q ∧ x.Holds (.reform .step) q))

/-- SET POSITION with the loom at rest (R42, R44): RANGE for a line not below the height, then for a step not below the
line's length; else the position is the one given in the weaving bank, the counter stays, the speed measurement is
cancelled, and a re-form with the cause SET starts, whatever was pending, or is owed. -/
def Obligations.SetPositionMovesThePosition : Prop :=
  ∀ (p : List Byte) (q : Position) (s : State), p.length = 5 → s.listens .loom = true → s.Movable →
    s.pick.position = some q →
    ((s.article q.bank).height ≤ wordAt p 0 →
      exec (.setPosition .loom p) s = .next (answer .loom 0x23 (.refused .range (.number 0)) s)) ∧
    (wordAt p 0 < (s.article q.bank).height → (s.article q.bank).len (wordAt p 0) ≤ byteAt p 2 →
      exec (.setPosition .loom p) s = .next (answer .loom 0x23 (.refused .range (.number 1)) s)) ∧
    ((s.article q.bank).Holds (wordAt p 0) (byteAt p 2) →
      ∃ t, exec (.setPosition .loom p) s = .next (answer .loom 0x23 (.done []) t) ∧
        t.pick.position = some { bank := q.bank, line := wordAt p 0, step := byteAt p 2, rep := wordAt p 3 } ∧
        t.pick.counter = s.pick.counter ∧ t.pick.target = s.pick.target ∧ t.pick.engine = .weaving ∧
        t.shaft.speed = 0 ∧ t.shaft.measuring = false ∧ t.shaft.angle = s.shaft.angle ∧
        t.shaft.offset = s.shaft.offset ∧ t.harness.live = s.harness.live ∧ t.store.memory = s.store.memory ∧
        t.store.queue = s.store.queue ∧
        (s.shaft.reference ≠ .referenced → t.frame.owed = some .set ∧ t.store = s.store) ∧
        (s.shaft.reference = .referenced → s.harness.live.hooks ≠ 0 →
          t.Holds (.reform .set) { bank := q.bank, line := wordAt p 0, step := byteAt p 2, rep := wordAt p 3 } ∧
          t.store.bankA = s.store.bankA ∧ t.store.bankB = s.store.bankB ∧ t.frame.latched = s.frame.latched ∧
          t.pick.history = s.pick.history ∧ t.frame.output = s.frame.output))

/-- SET PICK COUNT and SET PIECE TARGET set their one number in every state (R32, R33); PIECE DONE is raised at a
forward latch in WEAVING exactly when the target is not 0, the counter reaches it and did not equal it before. -/
def Obligations.PickCountAndPieceTarget : Prop :=
  (∀ (a b c d : Byte) (s : State), s.listens .loom = true →
    exec (.setPickCount .loom [a, b, c, d]) s = .next (answer .loom 0x24 (.done [])
      { s with pick.counter := a.toNat * 16777216 + b.toNat * 65536 + c.toNat * 256 + d.toNat }) ∧
    exec (.setPieceTarget .loom [a, b, c, d]) s = .next (answer .loom 0x25 (.done [])
      { s with pick.target := a.toNat * 16777216 + b.toNat * 65536 + c.toNat * 256 + d.toNat })) ∧
  (∀ s : State, s.AtForwardLatch → s.pick.engine = .weaving → ∃ t, exec (.encoderCount .forward) s = .next t ∧
    t.pick.target = s.pick.target ∧
    t.loom.flags.getLsbD 6 =
      (s.loom.flags.getLsbD 6 ||
        (s.pick.target != 0 && t.pick.counter == s.pick.target && s.pick.counter != s.pick.target)))

/-- SWAP NOW with the loom at rest (R42, R45): BANK STATE unless the other bank is READY or ARMED, WIDTH with the first
slot that reaches the width where the check fails; else the weaving bank is RETIRED with the position retained, the
other weaves at (0, 0, 0), alternation and float states are fresh, SWAP is raised on both links, and a re-form with the
cause SWAP starts or is owed; the counter stays. -/
def Obligations.SwapNowChangesTheBank : Prop :=
  ∀ (p : Position) (s : State), s.listens .loom = true → s.Movable → s.pick.position = some p →
    ((s.bank (otherBank p.bank)).state ≠ .ready → (s.bank (otherBank p.bank)).state ≠ .armed →
      exec (.swapNow .loom []) s = .next (answer .loom 0x26 (.refused .bankState .none) s)) ∧
    ((s.bank (otherBank p.bank)).state = .ready ∨ (s.bank (otherBank p.bank)).state = .armed →
      (∀ i, s.harness.live.tooWide (s.article (otherBank p.bank)).width = some i →
        exec (.swapNow .loom []) s = .next (answer .loom 0x26 (.refused .width (.number i.val)) s)) ∧
      (s.fits (otherBank p.bank) = true → (s.bank p.bank).record.isSome = true →
        ∃ t, exec (.swapNow .loom []) s = .next (answer .loom 0x26 (.done []) t) ∧
        t.pick.position = some { bank := otherBank p.bank, line := 0, step := 0, rep := 0 } ∧
        (t.bank p.bank).state = .retired ∧ (t.bank (otherBank p.bank)).state = .weaving ∧
        (t.bank p.bank).record.bind (·.retained) = some { line := p.line, step := p.step, rep := p.rep } ∧
        t.frame.alternation = Vector.replicate 8 .primaryNext ∧ t.frame.committed = [] ∧
        t.loom.flags.getLsbD 3 = true ∧ t.design.flags.getLsbD 2 = true ∧ t.pick.counter = s.pick.counter ∧
        t.shaft.speed = 0 ∧ t.shaft.measuring = false ∧
        (s.shaft.reference ≠ .referenced → t.frame.owed = some .swap ∧ t.pick.exchangeNote = true) ∧
        (s.shaft.reference = .referenced → s.harness.live.hooks ≠ 0 → t.pick.exchangeNote = true ∧
          t.frame.latched = s.frame.latched ∧
          t.Holds (.reform .swap) { bank := otherBank p.bank, line := 0, step := 0, rep := 0 })))

/-- UNLOAD with the loom at rest (R46, R103, R107, R122): the engine is NO ARTICLE with no position, a WEAVING, ARMED or
RETIRED bank becomes READY with no retained position, DISARMED is raised where a bank was ARMED, the pending frame and
the owed re-form are gone, the feeder output is none, the gate off, no selection is latched, every driver is off and the
standstill timer stopped in RUN; the counter, the target, the history, LEVEL, the guard's settings and committed state,
the alternation and the availability stay. -/
def Obligations.UnloadEndsWeaving : Prop :=
  ∀ s : State, s.listens .loom = true → s.Movable → ∃ t,
    exec (.unload .loom []) s = .next (answer .loom 0x27 (.done []) t) ∧
    t.pick.engine = .noArticle ∧ t.pick.position = none ∧ t.pick.exchangeNote = false ∧
    (∀ b, (t.bank b).state =
      (match (s.bank b).state with
        | .weaving | .armed | .retired => .ready
        | x => x)) ∧
    (∀ b, (s.bank b).state = .retired → (t.bank b).record.bind (·.retained) = none) ∧
    t.design.flags.getLsbD 9 =
      (s.design.flags.getLsbD 9 || (s.store.bankA.state == .armed || s.store.bankB.state == .armed)) ∧
    t.frame.slot = .empty ∧ t.frame.owed = none ∧ t.frame.output = none ∧ t.frame.gate = false ∧
    t.frame.latchedDesc = none ∧ t.frame.pickFeeder = .noFrame ∧ t.frame.latched = Vector.replicate 8 none ∧
    t.harness.driversOn = Vector.replicate 8 false ∧ t.harness.stage = .run ∧ t.harness.timer = .stopped ∧
    t.pick.counter = s.pick.counter ∧ t.pick.target = s.pick.target ∧ t.pick.history = s.pick.history ∧
    t.pick.fault = s.pick.fault ∧ t.frame.level = s.frame.level ∧ t.frame.guard = s.frame.guard ∧
    t.frame.committed = s.frame.committed ∧ t.frame.alternation = s.frame.alternation ∧
    t.frame.available = s.frame.available ∧ t.shaft = s.shaft ∧ t.loom = s.loom ∧
    t.store.memory = s.store.memory ∧ t.store.queue = s.store.queue ∧ t.store.readback = s.store.readback

/-- FEEDER OUT and FEEDER IN (R86, R97): RANGE outside 1–8; FEEDER IN sets the flag alone; FEEDER OUT of a feeder the
output does not name clears the flag alone, and of the one it names re-resolves the output at once by its record: the
primary if available, else the alternate if available, else none, with FEEDER SUBSTITUTED for a feeder other than the
one the frame resolved and WEFT UNAVAILABLE for none. -/
def Obligations.FeederOutAndIn : Prop :=
  ∀ (b : Byte) (s : State), s.listens .loom = true →
    (b.toNat = 0 ∨ 8 < b.toNat →
      exec (.feederOut .loom [b]) s = .next (answer .loom 0x29 (.refused .range (.number 0)) s) ∧
      exec (.feederIn .loom [b]) s = .next (answer .loom 0x2A (.refused .range (.number 0)) s)) ∧
    ∀ f : Fin 8, b.toNat = f.val + 1 →
      exec (.feederIn .loom [b]) s = .next (answer .loom 0x2A (.done [])
        { s with frame.available := s.frame.available.set f true }) ∧
      (s.frame.output ≠ some f → exec (.feederOut .loom [b]) s = .next (answer .loom 0x29 (.done [])
        { s with frame.available := s.frame.available.set f false })) ∧
      (∀ r e, s.frame.output = some f → s.frame.outputRecord = some r → r.entry = some e →
        ∃ t, exec (.feederOut .loom [b]) s = .next (answer .loom 0x29 (.done []) t) ∧
        t.frame = { s.frame with available := s.frame.available.set f false, output := t.frame.output } ∧
        t.frame.output =
          (if (s.frame.available.set f false)[e.primary] then some e.primary
          else e.alternate.filter fun a => (s.frame.available.set f false)[a]) ∧
        (t.frame.output = none → s.pick.fault = none → t.pick.stopRequest = true ∧
          ∃ x, t.pick.fault = some x ∧ x.kind = .weftUnavailable ∧ x.counter = s.pick.counter ∧
            x.position = s.pick.position ∧ x.angle = s.shaft.angle) ∧
        (∀ x, t.frame.output = none → s.pick.fault = some x → ∃ y, t.pick.fault = some y ∧ y.kind = x.kind ∧
          y.laterCount = min (x.laterCount + 1) 255 ∧ y.laterKinds.weftUnavailable = true) ∧
        (t.frame.output ≠ none → t.pick = s.pick ∧
          t.loom.flags.getLsbD 12 = (s.loom.flags.getLsbD 12 || t.frame.output != r.resolved)) ∧
        t.shaft = s.shaft ∧ t.harness = s.harness ∧ t.store = s.store ∧ t.pick.position = s.pick.position ∧
        t.pick.counter = s.pick.counter ∧ t.pick.history = s.pick.history)

/-- LEVEL ON and LEVEL OFF (R68): in NO ARTICLE the flag alone; with an article weaving and the shaft not REFERENCED the
flag and the owed cause REFORM; else the pending frame gives way to a re-form of the current position with the new flag
as its LEVEL mark. The position, the counter and the banks stay. -/
def Obligations.LevelCommandsSetTheFlag : Prop :=
  ∀ (on : Bool) (s : State), s.listens .loom = true → ∃ t,
    (if on then exec (.levelOn .loom []) s = .next (answer .loom 0x2B (.done []) t)
      else exec (.levelOff .loom []) s = .next (answer .loom 0x2C (.done []) t)) ∧
    t.frame.level = on ∧ t.pick.position = s.pick.position ∧ t.pick.counter = s.pick.counter ∧
    (s.pick.engine = .noArticle → t = { s with frame.level := on }) ∧
    (s.pick.engine ≠ .noArticle → s.shaft.reference ≠ .referenced →
      t = { s with frame := { s.frame with level := on, owed := some .reform } }) ∧
    (∀ p, s.pick.engine ≠ .noArticle → s.shaft.reference = .referenced → s.pick.position = some p →
      s.harness.live.hooks ≠ 0 → (∃ d, t.frame.slot.desc = some d ∧ d.kind = .reform .reform ∧ d.position = p ∧
        d.level = on ∧ d.pickValue = s.pick.counter ∧ d.swap = false) ∧ t.frame.latched = s.frame.latched ∧
        t.pick.history = s.pick.history ∧ t.store.bankA = s.store.bankA ∧ t.store.bankB = s.store.bankB)

/-- SET TIMING (R14–R16): MOVING unless STILL; RANGE in each case of R15 and in no other; else all eight settings take
their values after the clamps, and d is recomputed from the unchanged angle in REFERENCED and held otherwise. -/
def Obligations.SetTimingCheckedAndTaken : Prop :=
  ∀ (p : List Byte) (t : Timing) (s : State), s.listens .loom = true → p.length = 14 →
    t = { latchAngle := wordAt p 0, backOff := max 2 (min 32 (byteAt p 2)), frameStart := wordAt p 3,
          weftSelect := wordAt p 5, gateOn := wordAt p 7, gateOff := wordAt p 9, tolerance := byteAt p 11,
          stillTime := max 50 (min 1000 (wordAt p 12)) } →
    (s.shaft.motion ≠ .still →
      exec (.setTiming .loom p) s = .next (answer .loom 0x2D (.refused .moving .none) s)) ∧
    (s.shaft.motion = .still → ¬ t.Acceptable → ∃ f, f ≤ 6 ∧
      exec (.setTiming .loom p) s = .next (answer .loom 0x2D (.refused .range (.number f)) s)) ∧
    (s.shaft.motion = .still → t.Acceptable →
      exec (.setTiming .loom p) s = .next (answer .loom 0x2D (.done []) { s with
        shaft := { s.shaft with
          timing := t
          offset :=
            if s.shaft.reference = .referenced then ((s.shaft.angle : Int) - t.latchAngle) % 1024
            else s.shaft.offset } }))

/-- SET DRIVE (R121, R123): RANGE with the first slot number above 3 among the run slots and the standstill slot, or at
the policy; else the slot values by their lowest four bits, the times clamped at 255, all settings together, with
drivers and levels following at once and neither stage entered. The standstill timer goes on by R123: running in RUN,
toward the first expiry with the new T1, and T1 = 0 stops it; running in HOLD, toward the second with the new T2, and
T2 = 0 stops it; in RELEASE as it stands; stopped because T1 was 0, toward the first with a new T1 that is not 0, where
an article weaves. That T1 = 0 stops it in HOLD too, and that the last clause holds in HOLD as in RUN, is the model's
reading (log 17). -/
def Obligations.SetDriveTakesAllSettings : Prop :=
  ∀ (p : List Byte) (s : State), s.listens .loom = true → p.length = 18 →
    (∀ f, 4 ≤ f → f ≤ 12 → 3 < byteAt p f → (∀ g, 4 ≤ g → g < f → byteAt p g ≤ 3) →
      exec (.setDrive .loom p) s = .next (answer .loom 0x2E (.refused .range (.number f)) s)) ∧
    ((∀ g, 4 ≤ g → g ≤ 12 → byteAt p g ≤ 3) → 1 < byteAt p 17 →
      exec (.setDrive .loom p) s = .next (answer .loom 0x2E (.refused .range (.number 15)) s)) ∧
    ((∀ g, 4 ≤ g → g ≤ 12 → byteAt p g ≤ 3) → byteAt p 17 ≤ 1 → ∃ t,
      exec (.setDrive .loom p) s = .next (answer .loom 0x2E (.done []) t) ∧
      (∀ i : Fin 4, t.harness.drive.slots[i] = BitVec.ofNat 4 (byteAt p i.val)) ∧
      (∀ c : Fin 8, (t.harness.drive.runSlots[c]).val = byteAt p (4 + c.val)) ∧
      t.harness.drive.standstillSlot.val = byteAt p 12 ∧ t.harness.drive.t1 = min (wordAt p 13) 255 ∧
      t.harness.drive.t2 = min (wordAt p 15) 255 ∧
      t.harness.drive.policy = (if byteAt p 17 = 0 then .hold else .release) ∧ t.DriversFollow ∧
      t.harness.stage = s.harness.stage ∧
      (∀ n, s.harness.stage = .run → s.harness.timer = .toFirst n → t.harness.timer =
        (if t.harness.drive.t1 = 0 then .stopped else .toFirst (t.harness.drive.t1 * 100000))) ∧
      (∀ n, s.harness.stage = .hold → s.harness.timer = .toFirst n ∨ s.harness.timer = .toSecond n → t.harness.timer =
        (if t.harness.drive.t2 = 0 then .stoppedByT2 else if t.harness.drive.t1 = 0 then .stopped
          else .toSecond (t.harness.drive.t2 * 1000000))) ∧
      (s.harness.timer = .stopped → s.harness.drive.t1 = 0 → s.harness.stage ≠ .release →
        s.pick.engine ≠ .noArticle → t.harness.drive.t1 ≠ 0 →
        t.harness.timer = .toFirst (t.harness.drive.t1 * 100000)) ∧
      (s.harness.timer = .stopped →
        s.harness.drive.t1 ≠ 0 ∨ s.pick.engine = .noArticle ∨ t.harness.drive.t1 = 0 → t.harness.timer = .stopped) ∧
      (s.harness.timer = .stoppedByT2 → t.harness.timer = .stoppedByT2) ∧
      (s.harness.stage = .release → t.harness.timer = s.harness.timer) ∧
      t.harness.live = s.harness.live ∧ t.harness.claim = s.harness.claim ∧ t.harness.ra = s.harness.ra ∧
      t.harness.rb = s.harness.rb ∧ t.shaft = s.shaft ∧ t.pick = s.pick ∧ t.frame = s.frame ∧ t.store = s.store ∧
      t.loom = s.loom ∧ t.design = s.design)

/-- SET FLOAT GUARD (R73): a mode that names none is RANGE at field 0; else the mode and the limits, 0 kept, 1 taken as
2 and above 64 as 64, and every hook's committed state cleared; the pending frame stays. -/
def Obligations.SetFloatGuardClears : Prop :=
  ∀ (m u d : Byte) (s : State), s.listens .loom = true →
    (2 < m.toNat → exec (.setFloatGuard .loom [m, u, d]) s =
      .next (answer .loom 0x2F (.refused .range (.number 0)) s)) ∧
    (∀ mode : GuardMode, m.toNat = (match mode with | .off => 0 | .bind => 1 | .stop => 2) →
      exec (.setFloatGuard .loom [m, u, d]) s = .next (answer .loom 0x2F (.done []) { s with
        frame := { s.frame with
          guard :=
            { mode := mode, up := if u.toNat = 0 then 0 else max 2 (min 64 u.toNat),
              down := if d.toNat = 0 then 0 else max 2 (min 64 d.toNat) }
          committed := [] } }))

/-! ## The banks -/

/-- A command of the design link that names a bank, or READ ARTICLE, with a byte that names neither is refused with
RANGE at the bank field before any other check of its own (spec/08, "Bank states on the load side", R167). For DEFINE
SCHEME, DEFINE WEAVE, DEFINE FEEDERS and WRITE LINE, of which R155 says BANK STATE unless the named bank is OPEN, this is
the model's choice (log 37). -/
def Obligations.BankByteCheckedFirst : Prop :=
  ∀ (i : Instr) (k : Link) (code : Byte) (o : Offer) (lo hi : Nat) (s : State), i.codeOf = some (k, code) →
    commandOffer i = some (o, lo, hi) → o.on k = true → s.listens k = true → lo ≤ i.params.length →
    i.params.length ≤ hi → (0x40 ≤ code.toNat ∧ code.toNat ≤ 0x4A ∨ code = 0x10#8) → 1 < byteAt i.params 0 →
    exec i s = .next (answer k code (.refused .range (.number 0)) s)

/-- OPEN ARTICLE (R147, R146, R165): BANK STATE for a bank that is OPEN, CLOSING, ARMED or WEAVING or beside one that
is OPEN or CLOSING; RANGE at width, height, face in this order; else a new record with every line not written, no close
result, the bank OPEN, and a readback buffer naming the bank emptied. -/
def Obligations.OpenArticleMakesANewRecord : Prop :=
  ∀ (b : BankId) (w1 w0 h1 h0 f : Byte) (w h : Nat) (s : State), w = w1.toNat * 256 + w0.toNat →
    h = h1.toNat * 256 + h0.toNat → s.listens .design = true →
    let i : Instr := .openArticle .design [BitVec.ofNat 8 (bankCode b), w1, w0, h1, h0, f]
    let free := ((s.bank b).state = .empty ∨ (s.bank b).state = .ready ∨ (s.bank b).state = .retired) ∧
      (s.bank (otherBank b)).state ≠ .opened ∧ (s.bank (otherBank b)).state ≠ .closing
    (¬ free → exec i s = .next (answer .design 0x40 (.refused .bankState .none) s)) ∧
    (free → (w < 8 ∨ 8192 < w) → exec i s = .next (answer .design 0x40 (.refused .range (.number 1)) s)) ∧
    (free → 8 ≤ w → w ≤ 8192 → (h < 1 ∨ 8192 < h) →
      exec i s = .next (answer .design 0x40 (.refused .range (.number 2)) s)) ∧
    (free → 8 ≤ w → w ≤ 8192 → 1 ≤ h → h ≤ 8192 → 1 < f.toNat →
      exec i s = .next (answer .design 0x40 (.refused .range (.number 3)) s)) ∧
    (∀ face : Face, free → 8 ≤ w → w ≤ 8192 → 1 ≤ h → h ≤ 8192 →
      f.toNat = (match face with | .up => 0 | .down => 1) → ∃ t, exec i s = .next (answer .design 0x40 (.done []) t) ∧
        t.bank b =
          { state := .opened, closeResult := .none
            record := some
              { width := w, height := h, face := face, schemes := Vector.replicate 8 none,
                weaves := Vector.replicate 8 (Vector.replicate 4 none), feeders := Vector.replicate 8 none,
                lines := List.replicate h none, retained := none } } ∧
        t.bank (otherBank b) = s.bank (otherBank b) ∧ t.store.queue = s.store.queue ∧
        t.store.memory = s.store.memory ∧
        (s.store.readback.names b = true → t.store.readback = .empty) ∧
        (s.store.readback.names b = false → t.store.readback = s.store.readback ∧ t.store.port = s.store.port) ∧
        t.shaft = s.shaft ∧ t.pick = s.pick ∧ t.frame = s.frame ∧ t.harness = s.harness ∧ t.loom = s.loom ∧
        t.design = s.design)

/-- REOPEN (R148) keeps the record and drops a retained position, with DISARMED for a bank that was ARMED; DISCARD BANK
(R154, R162, R165) empties the bank, dropping the load queue of an OPEN one with QUEUE SPACE where it was full. Each
refuses the states its rule names, an ARMED bank with BANK IN USE only while a swap-marked frame is pending. -/
def Obligations.ReopenAndDiscardBank : Prop :=
  ∀ (b : BankId) (s : State), s.listens .design = true →
    let r : Instr := .reopen .design [BitVec.ofNat 8 (bankCode b)]
    let d : Instr := .discardBank .design [BitVec.ofNat 8 (bankCode b)]
    let st := (s.bank b).state
    let other := (s.bank (otherBank b)).state
    (st = .empty ∨ st = .opened ∨ st = .closing ∨ st = .weaving ∨ other = .opened ∨ other = .closing →
      exec r s = .next (answer .design 0x41 (.refused .bankState .none) s)) ∧
    (st = .armed → other ≠ .opened → other ≠ .closing → s.swapPending = true →
      exec r s = .next (answer .design 0x41 (.refused .bankInUse .none) s)) ∧
    (∀ a, (s.bank b).record = some a → other ≠ .opened → other ≠ .closing →
      (st = .ready ∨ st = .retired ∨ (st = .armed ∧ s.swapPending = false)) →
      exec r s = .next (answer .design 0x41 (.done []) (raiseIf (st == .armed) .design .disarmed
        (s.setBank b { state := .opened, closeResult := .none, record := some { a with retained := none } })))) ∧
    (st = .weaving → exec d s = .next (answer .design 0x49 (.refused .bankState .none) s)) ∧
    (st = .closing ∨ (st = .armed ∧ s.swapPending = true) →
      exec d s = .next (answer .design 0x49 (.refused .bankInUse .none) s)) ∧
    (st = .empty → exec d s = .next (answer .design 0x49 (.done []) s)) ∧
    (st = .opened ∨ st = .ready ∨ st = .retired ∨ (st = .armed ∧ s.swapPending = false) →
      ∃ t, exec d s = .next (answer .design 0x49 (.done []) t) ∧
        t.bank b = { state := .empty, record := none, closeResult := .none } ∧
        t.bank (otherBank b) = s.bank (otherBank b) ∧ t.store.memory = s.store.memory ∧
        (s.store.readback.names b = true → t.store.readback = .empty) ∧
        (s.store.readback.names b = false → t.store.readback = s.store.readback) ∧
        (st ≠ .opened → t.store.queue = s.store.queue ∧ t.design = s.design) ∧
        (st = .opened → t.store.queue = [] ∧
          t.design.flags.getLsbD 7 = (s.design.flags.getLsbD 7 || s.store.queue.length == 4)) ∧
        t.shaft = s.shaft ∧ t.pick = s.pick ∧ t.frame = s.frame ∧ t.harness = s.harness ∧ t.loom = s.loom)

/-- DEFINE SCHEME, DEFINE WEAVE and DEFINE FEEDERS (R155–R158): BANK STATE unless the bank is OPEN; RANGE and LENGTH
with the first failing field; else the one item of the record takes the definition, or becomes undefined for a step
count, a size or a primary of 0, and nothing else changes. The fields of a step are examined in the order carried: after
steps in their ranges, a weft system above 7 or a row shift above 23 of a step the count gives is RANGE at its field. That
a field that is missing, or the first beyond the count, is LENGTH at its own number, and that a weft system above 7 in
DEFINE FEEDERS is RANGE at field 1, is the model's reading (log 18). -/
def Obligations.DefineCommandsEditTheRecord : Prop :=
  ∀ (b : BankId) (s : State), s.listens .design = true →
    let bb : Byte := BitVec.ofNat 8 (bankCode b)
    ((s.bank b).state ≠ .opened →
      (∀ p : List Byte, 2 ≤ p.length → p.length ≤ 26 →
        exec (.defineScheme .design (bb :: p)) s = .next (answer .design 0x42 (.refused .bankState .none) s)) ∧
      (∀ p : List Byte, 4 ≤ p.length → p.length ≤ 76 →
        exec (.defineWeave .design (bb :: p)) s = .next (answer .design 0x43 (.refused .bankState .none) s)) ∧
      (∀ p : List Byte, p.length = 4 →
        exec (.defineFeeders .design (bb :: p)) s = .next (answer .design 0x44 (.refused .bankState .none) s))) ∧
    (∀ a, (s.bank b).state = .opened → (s.bank b).record = some a →
      (∀ (n m : Byte) (p : List Byte), p.length ≤ 24 →
        (7 < n.toNat → exec (.defineScheme .design (bb :: n :: m :: p)) s =
          .next (answer .design 0x42 (.refused .range (.number 1)) s)) ∧
        (n.toNat ≤ 7 → 12 < m.toNat → exec (.defineScheme .design (bb :: n :: m :: p)) s =
          .next (answer .design 0x42 (.refused .range (.number 2)) s))) ∧
      (∀ (n : Fin 8) (steps : List SchemeStep), steps.length ≤ 12 → (∀ x ∈ steps, x.shift ≤ 23) →
        exec (.defineScheme .design (bb :: BitVec.ofNat 8 n.val :: BitVec.ofNat 8 steps.length ::
            steps.flatMap fun x => [BitVec.ofNat 8 x.system.val, BitVec.ofNat 8 x.shift])) s =
          .next (answer .design 0x42 (.done []) (s.setBank b { (s.bank b) with
            record := some { a with schemes := a.schemes.set n (if steps = [] then none else some steps) } }))) ∧
      (∀ (n : Fin 8) (c : Byte) (steps : List SchemeStep), steps.length ≤ 12 → c.toNat ≤ 12 →
        c.toNat ≠ steps.length → (∀ x ∈ steps, x.shift ≤ 23) →
        exec (.defineScheme .design (bb :: BitVec.ofNat 8 n.val :: c ::
            steps.flatMap fun x => [BitVec.ofNat 8 x.system.val, BitVec.ofNat 8 x.shift])) s =
          .next (answer .design 0x42 (.refused .length (.number (3 + 2 * min c.toNat steps.length))) s)) ∧
      (∀ (n : Fin 8) (c w : Byte) (good : List SchemeStep) (rest : List Byte),
        2 * good.length + 1 + rest.length ≤ 24 → c.toNat ≤ 12 → (∀ x ∈ good, x.shift ≤ 23) →
        let i : Instr := .defineScheme .design (bb :: BitVec.ofNat 8 n.val :: c ::
          ((good.flatMap fun x => [BitVec.ofNat 8 x.system.val, BitVec.ofNat 8 x.shift]) ++ w :: rest))
        (c.toNat = good.length →
          exec i s = .next (answer .design 0x42 (.refused .length (.number (3 + 2 * good.length))) s)) ∧
        (good.length < c.toNat → 7 < w.toNat →
          exec i s = .next (answer .design 0x42 (.refused .range (.number (3 + 2 * good.length))) s)) ∧
        (good.length < c.toNat → w.toNat ≤ 7 → rest = [] →
          exec i s = .next (answer .design 0x42 (.refused .length (.number (4 + 2 * good.length))) s)) ∧
        (∀ z rest', good.length < c.toNat → w.toNat ≤ 7 → rest = z :: rest' → 23 < z.toNat →
          exec i s = .next (answer .design 0x42 (.refused .range (.number (4 + 2 * good.length))) s))) ∧
      (∀ (ws : Fin 8) (e : Fin 4) (w h : Byte) (grid : List Byte), grid.length ≤ 72 →
        (w = 0#8 → h = 0#8 → grid = [] →
          exec (.defineWeave .design (bb :: BitVec.ofNat 8 ws.val :: BitVec.ofNat 8 e.val :: w :: h :: grid)) s =
          .next (answer .design 0x43 (.done []) (s.setBank b { (s.bank b) with
            record := some { a with weaves := a.weaves.set ws ((a.weaves[ws]).set e none) } }))) ∧
        (1 ≤ w.toNat → w.toNat ≤ 24 → 1 ≤ h.toNat → h.toNat ≤ 24 →
          (grid.length = h.toNat * ((w.toNat + 7) / 8) → ∃ g : Grid,
            exec (.defineWeave .design (bb :: BitVec.ofNat 8 ws.val :: BitVec.ofNat 8 e.val :: w :: h :: grid)) s =
            .next (answer .design 0x43 (.done []) (s.setBank b { (s.bank b) with
              record := some { a with weaves := a.weaves.set ws ((a.weaves[ws]).set e (some g)) } })) ∧
            g.width = w.toNat ∧ g.height = h.toNat ∧ ∀ row col, row < g.height → col < g.width → g.bit row col =
              (grid.getD (row * ((w.toNat + 7) / 8) + col / 8) 0#8).getLsbD (col % 8)) ∧
          (grid.length ≠ h.toNat * ((w.toNat + 7) / 8) →
            exec (.defineWeave .design (bb :: BitVec.ofNat 8 ws.val :: BitVec.ofNat 8 e.val :: w :: h :: grid)) s =
            .next (answer .design 0x43 (.refused .length (.number 5)) s))) ∧
        (w = 0#8 → h ≠ 0#8 ∨ grid ≠ [] →
          exec (.defineWeave .design (bb :: BitVec.ofNat 8 ws.val :: BitVec.ofNat 8 e.val :: w :: h :: grid)) s =
          .next (answer .design 0x43 (.refused .range (.number 3)) s)) ∧
        (1 ≤ w.toNat → w.toNat ≤ 24 → h = 0#8 ∨ 24 < h.toNat →
          exec (.defineWeave .design (bb :: BitVec.ofNat 8 ws.val :: BitVec.ofNat 8 e.val :: w :: h :: grid)) s =
          .next (answer .design 0x43 (.refused .range (.number 4)) s)) ∧
        (24 < w.toNat →
          exec (.defineWeave .design (bb :: BitVec.ofNat 8 ws.val :: BitVec.ofNat 8 e.val :: w :: h :: grid)) s =
          .next (answer .design 0x43 (.refused .range (.number 3)) s))) ∧
      (∀ (n m w h : Byte) (grid : List Byte), grid.length ≤ 72 →
        (7 < n.toNat → exec (.defineWeave .design (bb :: n :: m :: w :: h :: grid)) s =
          .next (answer .design 0x43 (.refused .range (.number 1)) s)) ∧
        (n.toNat ≤ 7 → 3 < m.toNat → exec (.defineWeave .design (bb :: n :: m :: w :: h :: grid)) s =
          .next (answer .design 0x43 (.refused .range (.number 2)) s))) ∧
      (∀ n x y m : Byte, 7 < n.toNat → exec (.defineFeeders .design [bb, n, x, y, m]) s =
        .next (answer .design 0x44 (.refused .range (.number 1)) s)) ∧
      (∀ (ws : Fin 8) (x y m : Byte),
        let i : Instr := .defineFeeders .design [bb, BitVec.ofNat 8 ws.val, x, y, m]
        (x = 0#8 → exec i s = .next (answer .design 0x44 (.done []) (s.setBank b { (s.bank b) with
          record := some { a with feeders := a.feeders.set ws none } }))) ∧
        (8 < x.toNat → exec i s = .next (answer .design 0x44 (.refused .range (.number 2)) s)) ∧
        (1 ≤ x.toNat → x.toNat ≤ 8 → (8 < y.toNat ∨ y = x) →
          exec i s = .next (answer .design 0x44 (.refused .range (.number 3)) s)) ∧
        (1 ≤ x.toNat → x.toNat ≤ 8 → y.toNat ≤ 8 → y ≠ x → 1 < m.toNat →
          exec i s = .next (answer .design 0x44 (.refused .range (.number 4)) s)) ∧
        (∀ (f : Fin 8) (mode : FeederMode), x.toNat = f.val + 1 → y.toNat ≤ 8 → y ≠ x →
          m.toNat = (match mode with | .single => 0 | .alternate => 1) →
          ∃ alt : Option (Fin 8), feederCode alt = y.toNat ∧
          exec i s = .next (answer .design 0x44 (.done []) (s.setBank b { (s.bank b) with
            record := some { a with
              feeders := a.feeders.set ws (some { primary := f, alternate := alt, mode := mode }) } })))))

/-- WRITE LINE (R155, R159): BANK STATE unless the bank is OPEN, RANGE at the line and at the scheme, LENGTH at the
cells, BUSY for a full queue, BUSY for the line in readback, in this order; else an entry joins the load queue at the
back with the cells beyond column W−1 of the last byte set to 0, and a free port is granted by R163. Pattern memory and the record
stay. -/
def Obligations.WriteLineChecksAndQueues : Prop :=
  ∀ (b : BankId) (l1 l0 n : Byte) (line : Nat) (cells : List Byte) (s : State), s.listens .design = true →
    line = l1.toNat * 256 + l0.toNat → 2 ≤ cells.length → cells.length ≤ 2048 →
    let i : Instr := .writeLine .design (BitVec.ofNat 8 (bankCode b) :: l1 :: l0 :: n :: cells)
    ((s.bank b).state ≠ .opened → exec i s = .next (answer .design 0x45 (.refused .bankState .none) s)) ∧
    ((s.bank b).state = .opened →
      ((s.article b).height ≤ line → exec i s = .next (answer .design 0x45 (.refused .range (.number 1)) s)) ∧
      (line < (s.article b).height → 7 < n.toNat →
        exec i s = .next (answer .design 0x45 (.refused .range (.number 2)) s)) ∧
      (line < (s.article b).height → n.toNat ≤ 7 → cells.length ≠ ((s.article b).width + 3) / 4 →
        exec i s = .next (answer .design 0x45 (.refused .length (.number 3)) s)) ∧
      (line < (s.article b).height → n.toNat ≤ 7 → cells.length = ((s.article b).width + 3) / 4 →
        (s.store.queue.length = 4 → exec i s = .next (answer .design 0x45 .busy s)) ∧
        (∀ job data, s.store.readback = .filling job data → job.bank = b → job.line = line →
          exec i s = .next (answer .design 0x45 .busy s)) ∧
        (s.store.queue.length ≠ 4 →
          (∀ job data, s.store.readback = .filling job data → job.bank = b → job.line ≠ line) →
          ∃ t e, exec i s = .next (answer .design 0x45 (.done []) t) ∧ t.store.queue = s.store.queue ++ [e] ∧
            e.bank = b ∧ e.line = line ∧ e.scheme.val = n.toNat ∧ e.written = 0 ∧ e.cells.length = cells.length ∧
            (∀ col, col < (s.article b).width → effectCode e.cells col = effectCode cells col) ∧
            (∀ col, (s.article b).width ≤ col → effectCode e.cells col = 0) ∧
            (s.store.port = none → t.store.port = t.due) ∧
            (∀ x, s.store.port = some x → t.store.port = some x) ∧
            t.store.bankA = s.store.bankA ∧ t.store.bankB = s.store.bankB ∧ t.store.memory = s.store.memory ∧
            t.store.readback = s.store.readback ∧ t.shaft = s.shaft ∧ t.pick = s.pick ∧ t.frame = s.frame ∧
            t.harness = s.harness ∧ t.loom = s.loom ∧ t.design = s.design)))

/-- CLOSE ARTICLE (R149, R150): BANK STATE unless OPEN, else STARTED; with entries in the queue the bank is CLOSING,
with none the validation runs at once and CLOSE DONE is raised. The validation finds the lowest line not written, else
the lowest undefined scheme the line table holds, else the lowest used system with an undefined weave, else the lowest
used system without a feeder entry, else OK, which alone makes the bank READY. -/
def Obligations.CloseArticleValidates : Prop :=
  (∀ (b : BankId) (s : State), s.listens .design = true →
    let i : Instr := .closeArticle .design [BitVec.ofNat 8 (bankCode b)]
    ((s.bank b).state ≠ .opened → exec i s = .next (answer .design 0x46 (.refused .bankState .none) s)) ∧
    ((s.bank b).state = .opened → s.store.queue ≠ [] →
      exec i s = .next (answer .design 0x46 .started (s.setBank b { (s.bank b) with state := .closing }))) ∧
    ((s.bank b).state = .opened → s.store.queue = [] →
      exec i s = .next (answer .design 0x46 .started (raise .design .closeDone (s.setBank b
        { (s.bank b) with
          state := if (s.article b).validate = .ok then .ready else .opened
          closeResult := (s.article b).validate }))))) ∧
  ∀ a : Article,
    (∀ l, a.validate = .linesMissing l ↔
      l < a.lines.length ∧ a.schemeNumber l = none ∧ ∀ m, m < l → (a.schemeNumber m).isSome = true) ∧
    (∀ n, a.validate = .schemeUndefined n ↔
      (∀ m, m < a.lines.length → (a.schemeNumber m).isSome = true) ∧ some n ∈ a.lines ∧ a.schemes[n] = none ∧
        ∀ m, m < n → some m ∈ a.lines → a.schemes[m] ≠ none) ∧
    a.validate ≠ .none ∧
    (∀ ws e, a.validate = .weaveUndefined ws e ↔
      (∀ m, m < a.lines.length → (a.schemeNumber m).isSome = true) ∧
        (∀ n, some n ∈ a.lines → a.schemes[n] ≠ none) ∧ a.usesSystem ws = true ∧ (a.weaves[ws])[e] = none ∧
        (∀ e' : Fin 4, e' < e → (a.weaves[ws])[e'] ≠ none) ∧
        ∀ (ws' : Fin 8) (e' : Fin 4), ws' < ws → a.usesSystem ws' = true → (a.weaves[ws'])[e'] ≠ none) ∧
    (∀ ws, a.validate = .feederUndefined ws ↔
      (∀ m, m < a.lines.length → (a.schemeNumber m).isSome = true) ∧
        (∀ n, some n ∈ a.lines → a.schemes[n] ≠ none) ∧
        (∀ (ws' : Fin 8) (e' : Fin 4), a.usesSystem ws' = true → (a.weaves[ws'])[e'] ≠ none) ∧ a.usesSystem ws = true ∧
        a.feeders[ws] = none ∧ ∀ ws' : Fin 8, ws' < ws → a.usesSystem ws' = true → a.feeders[ws'] ≠ none) ∧
    (a.validate = .ok ↔
      (∀ m, m < a.lines.length → (a.schemeNumber m).isSome = true) ∧
        (∀ n, some n ∈ a.lines → a.schemes[n] ≠ none) ∧
        (∀ ws : Fin 8, a.usesSystem ws = true → a.feeders[ws] ≠ none ∧ ∀ e : Fin 4, (a.weaves[ws])[e] ≠ none)) ∧
    (∀ ws, a.usesSystem ws = true ↔
      ∃ n steps, some n ∈ a.lines ∧ a.schemes[n] = some steps ∧ ∃ x ∈ steps, x.system = ws)

/-- ARM (R151, R152) and DISARM (R153): ARM of a READY bank makes it ARMED beside a WEAVING one; with none weaving it is
refused WIDTH with the first slot that reaches the width, or installs it: the position (0, 0, 0), the engine WEAVING or
in LOST UNSYNCHRONISED, fresh alternation and float states, no latched selection, the standstill stage RUN, and a
re-form with the cause REFORM started or owed. DISARM makes an ARMED bank READY, TOO LATE while a swap-marked frame is
pending. Every other state is BANK STATE. -/
def Obligations.ArmAndDisarm : Prop :=
  ∀ (b : BankId) (s : State), s.listens .design = true →
    let i : Instr := .arm .design [BitVec.ofNat 8 (bankCode b)]
    let d : Instr := .disarm .design [BitVec.ofNat 8 (bankCode b)]
    ((s.bank b).state ≠ .ready → exec i s = .next (answer .design 0x47 (.refused .bankState .none) s)) ∧
    ((s.bank b).state = .ready → (s.bank (otherBank b)).state = .weaving →
      exec i s = .next (answer .design 0x47 (.done []) (s.setBank b { (s.bank b) with state := .armed }))) ∧
    ((s.bank b).state = .ready → (s.bank (otherBank b)).state ≠ .weaving →
      (∀ x, s.harness.live.tooWide (s.article b).width = some x →
        exec i s = .next (answer .design 0x47 (.refused .width (.number x.val)) s)) ∧
      (s.fits b = true → ∃ t, exec i s = .next (answer .design 0x47 (.done []) t) ∧
        t.pick.position = some { bank := b, line := 0, step := 0, rep := 0 } ∧
        t.pick.engine = (if s.shaft.reference = .lost then .unsynchronised else .weaving) ∧
        (t.bank b).state = .weaving ∧ (t.bank b).record = (s.bank b).record ∧
        t.frame.alternation = Vector.replicate 8 .primaryNext ∧ t.frame.committed = [] ∧ t.harness.stage = .run ∧
        t.pick.counter = s.pick.counter ∧ t.shaft.angle = s.shaft.angle ∧ t.shaft.offset = s.shaft.offset ∧
        (s.shaft.reference ≠ .referenced → t.frame.owed = some .reform ∧ t.frame.latchedDesc = none ∧
          t.frame.pickFeeder = .noFrame ∧ t.frame.latched = Vector.replicate 8 none ∧
          t.bank (otherBank b) = s.bank (otherBank b)) ∧
        (s.shaft.reference = .referenced → s.harness.live.hooks ≠ 0 → t.frame.latchedDesc = none ∧
          t.frame.pickFeeder = .noFrame ∧ t.frame.latched = Vector.replicate 8 none ∧ t.pick.reforming = true ∧
          t.bank (otherBank b) = s.bank (otherBank b) ∧
          t.Holds (.reform .reform) { bank := b, line := 0, step := 0, rep := 0 }))) ∧
    ((s.bank b).state ≠ .armed → exec d s = .next (answer .design 0x48 (.refused .bankState .none) s)) ∧
    ((s.bank b).state = .armed → s.swapPending = true →
      exec d s = .next (answer .design 0x48 (.refused .tooLate .none) s)) ∧
    ((s.bank b).state = .armed → s.swapPending = false →
      exec d s = .next (answer .design 0x48 (.done []) (s.setBank b { (s.bank b) with state := .ready })))

/-- READ LINE (R164): BANK STATE for an EMPTY bank, RANGE, BUSY while FILLING, BUSY with the queue not empty, NOT LOADED
for a line not written, in this order; else STARTED with the buffer FILLING for the bank, the line, its scheme and the
width, and a free port granted by R163. FETCH LINE is BUSY while FILLING (R166). -/
def Obligations.ReadLineStartsReadback : Prop :=
  ∀ (b : BankId) (l1 l0 : Byte) (line : Nat) (s : State), s.listens .design = true →
    line = l1.toNat * 256 + l0.toNat →
    let i : Instr := .readLine .design [BitVec.ofNat 8 (bankCode b), l1, l0]
    ((s.bank b).state = .empty → exec i s = .next (answer .design 0x4A (.refused .bankState .none) s)) ∧
    ((s.bank b).state ≠ .empty → (s.article b).height ≤ line →
      exec i s = .next (answer .design 0x4A (.refused .range (.number 1)) s)) ∧
    (∀ job data, s.store.readback = .filling job data →
      exec (.fetchLine .design []) s = .next (answer .design 0x4B .busy s) ∧
      ((s.bank b).state ≠ .empty → line < (s.article b).height → exec i s = .next (answer .design 0x4A .busy s))) ∧
    ((s.bank b).state ≠ .empty → line < (s.article b).height → s.store.queue ≠ [] →
      exec i s = .next (answer .design 0x4A .busy s)) ∧
    ((s.bank b).state ≠ .empty → line < (s.article b).height →
      (∀ job data, s.store.readback ≠ .filling job data) → s.store.queue = [] →
      ((s.article b).schemeNumber line = none →
        exec i s = .next (answer .design 0x4A (.refused .notLoaded .none) s)) ∧
      (∀ n, (s.article b).schemeNumber line = some n → ∃ t, exec i s = .next (answer .design 0x4A .started t) ∧
        t.store.readback = .filling { bank := b, line := line, scheme := n, width := (s.article b).width } [] ∧
        (s.store.port = none → t.store.port = t.due) ∧ (∀ x, s.store.port = some x → t.store.port = some x) ∧
        t.store.bankA = s.store.bankA ∧ t.store.bankB = s.store.bankB ∧ t.store.queue = [] ∧
        t.store.memory = s.store.memory ∧ t.shaft = s.shaft ∧ t.pick = s.pick ∧ t.frame = s.frame ∧
        t.harness = s.harness ∧ t.loom = s.loom ∧ t.design = s.design))

/-! ## Resets -/

/-- RESET_PIN and POWER_ON_RESET leave every block at the values its chapter gives (R21, R51, R72, R98, R121, R125, R143,
R169, R180, R198), the release inputs as the pins stand; the RESET pin keeps a FIXED lock and with it the live table
(R144). Pattern memory is as it was (R145), by the model's reading also where the reset cuts a burst of the load queue
(log 12); the re-forming flag is clear with no article (the model's choice, log 35); the model's own queues are kept
(log 20). RESET_END takes the encoder lines, and a link whose select is still
asserted discards until its release (R198); with no reset applied it does nothing (log 4). -/
def Obligations.ResetsAndTheirEnd : Prop :=
  ∀ (ra rb : Bool) (s : State),
    (∃ t, exec (.resetPin ra rb) s = .next t ∧
      t.harness.fixed = s.harness.fixed ∧ (s.harness.fixed = true → t.harness.live = s.harness.live) ∧
      (s.harness.fixed = false →
        t.harness.live.chains =
          Vector.replicate 8 { length := 0, enabled := false, ignoreRA := false, ignoreRB := false } ∧
        t.harness.live.sections = Vector.replicate 16 none ∧
        t.harness.live.selvages = Vector.replicate 4 none)) ∧
    (∃ t, exec (.powerOnReset ra rb) s = .next t ∧ t.harness.fixed = false ∧
      t.harness.live.chains =
        Vector.replicate 8 { length := 0, enabled := false, ignoreRA := false, ignoreRB := false } ∧
      t.harness.live.sections = Vector.replicate 16 none ∧ t.harness.live.selvages = Vector.replicate 4 none) ∧
    (∀ t, exec (.resetPin ra rb) s = .next t ∨ exec (.powerOnReset ra rb) s = .next t →
      t.inReset = true ∧ t.listens .loom = false ∧ t.listens .design = false ∧
      t.shaft.angle = 0 ∧ t.shaft.reference = .unreferenced ∧ t.shaft.cause = .none ∧ t.shaft.motion = .still ∧
      t.shaft.stillTimer = none ∧ t.shaft.offset = 0 ∧ t.shaft.speed = 0 ∧ t.shaft.measuring = false ∧
      t.shaft.interval = 0 ∧ t.shaft.intervalRunning = false ∧ t.shaft.slack = 0 ∧ t.shaft.slackCounter = 0 ∧
      t.shaft.margin = 0 ∧
      t.shaft.timing =
        { latchAngle := 0, backOff := 8, frameStart := 64, weftSelect := 160, gateOn := 200, gateOff := 600,
          tolerance := 2, stillTime := 200 } ∧
      t.pick =
        { engine := .noArticle, position := none, reforming := false, counter := 0, target := 0,
          exchangeNote := false, history := [], fault := none, stopRequest := false } ∧
      t.frame.slot = .empty ∧ t.frame.owed = none ∧ t.frame.latchedDesc = none ∧ t.frame.pickFeeder = .noFrame ∧
      t.frame.staged = Vector.replicate 8 none ∧ t.frame.latched = Vector.replicate 8 none ∧
      t.frame.level = false ∧ t.frame.guard = { mode := .off, up := 0, down := 0 } ∧ t.frame.committed = [] ∧
      t.frame.available = Vector.replicate 8 true ∧ t.frame.alternation = Vector.replicate 8 .primaryNext ∧
      t.frame.output = none ∧ t.frame.gate = false ∧
      t.harness.claim = none ∧ t.harness.keep = false ∧ t.harness.ra = ra ∧ t.harness.rb = rb ∧
      t.harness.drive =
        { slots := #v[12#4, 8#4, 4#4, 15#4], runSlots := Vector.replicate 8 0, standstillSlot := 2, t1 := 20,
          t2 := 30, policy := .hold } ∧
      t.harness.stage = .run ∧ t.harness.timer = .stopped ∧ t.harness.driversOn = Vector.replicate 8 false ∧
      t.harness.levels = Vector.replicate 8 12#4 ∧
      (∀ b, t.bank b = { state := .empty, record := none, closeResult := .none }) ∧ t.store.queue = [] ∧
      t.store.readback = .empty ∧ t.store.port = none ∧ t.store.memory = s.store.memory ∧
      (∀ k, t.link k =
        { phase := .idle, received := [], place := 0, flags := 0#16, enables := 0#16, attention := false,
          noteSlot := none, refusal := none, reply := none }) ∧
      t.pending = s.pending ∧ t.wires = s.wires) ∧
    (∀ a b x y : Bool,
      (s.inReset = true → ∃ t, exec (.resetEnd a b x y) s = .next t ∧ t.inReset = false ∧
        t.shaft = { s.shaft with lines := { a := a, b := b } } ∧
        t.loom = { s.loom with
          phase := if x then .discarding else .idle, received := [], place := 0, reply := none } ∧
        t.design = { s.design with
          phase := if y then .discarding else .idle, received := [], place := 0, reply := none } ∧
        t.pick = s.pick ∧ t.frame = s.frame ∧ t.harness = s.harness ∧ t.store = s.store) ∧
      (s.inReset = false → exec (.resetEnd a b x y) s = .next s))

/-! ## Encoding -/

/-- The bytes a master sends for a row present that row to the part, for every row that a transaction presents and
every operand its form admits, with its last byte and no sooner (R182, R185–R187, R200); and every transaction presents a
well-formed row. Byte by byte: select puts an idle link in the command phase, which sends 0 and only gathers bytes until
the last, with which the row is taken (R182); after the command phase a byte moves the transaction on by one place
(R183); release is the row of an early release in the command phase and of a release after it (R187). With nothing on the
queue a step takes what waits on the lines (the model's choice, log 9). -/
def Obligations.TransactionBytesRoundTrip : Prop :=
  (∀ (i : Instr) (k : Link) (bytes : List Byte), i.wellFormed = true → encodeTransaction i = some (k, bytes) →
    transactionRow k bytes = i ∧
    (i ≠ .selectReleasedEarly k →
      presentedRow k bytes = some i ∧ ∀ n, n < bytes.length → presentedRow k (bytes.take n) = none)) ∧
  (∀ (k : Link) (bytes : List Byte), (transactionRow k bytes).wellFormed = true) ∧
  (∀ i : Instr, (i.codeOf.isSome = true ∨ (∃ k c n, i = .overLongLength k c n) ∨ ∃ k, i = .selectReleasedEarly k) →
    (encodeTransaction i).isSome = true) ∧
  (∀ (i : Instr) (k : Link) (front : List Byte) (last : Byte) (s : State), i.wellFormed = true →
    encodeTransaction i = some (k, front ++ [last]) → s.inReset = false → (s.link k).phase = .idle →
    takeWires (.select k :: front.map (.clock k)) s = .next (s.receiving k front) ∧
    takeWire (.clock k last) (s.receiving k front) = exec i (s.receiving k (front ++ [last]))) ∧
  (∀ (k : Link) (bytes : List Byte) (s : State), ((s.receiving k bytes).link k).sends = 0#8 ∧
    (s.inReset = false → (s.receiving k bytes).listens k = true) ∧
    takeWire (.release k) (s.receiving k bytes) = exec (.selectReleasedEarly k) (s.receiving k bytes)) ∧
  (∀ (k : Link) (b : Byte) (s : State), s.inReset = false → (s.link k).phase ≠ .command →
    takeWire (.clock k b) s = .next (s.setLink k (s.link k).passByte) ∧
    takeWire (.release k) s = exec (.selectReleased k) s) ∧
  (∀ (k : Link) (b : Byte) (s : State), s.inReset = true →
    takeWire (.select k) s = .next s ∧ takeWire (.clock k b) s = .next s) ∧
  (∀ (s : State) (w : Wire) (rest : List Wire), s.pending = [] → s.wires = w :: rest →
    step s = takeWire w { s with wires := rest })

/-! ## What every step keeps -/

/-- Pattern memory: every step keeps its canonical form, and only a completed burst of the load queue writes it: any
other row, and time, leaves every byte as it was (R145, R163), a reset that cuts a burst among them (the model's choice,
log 12). The memory port: every step keeps that it is idle only while no request waits, and that the burst in progress is
the next one of its requester's line, unless its work has been abandoned (R163). -/
def Obligations.PatternMemoryKept : Prop :=
  (∀ s t : State, s.MemoryCanonical → step s = .next t → t.MemoryCanonical) ∧
  (∀ (i : Instr) (s t : State), exec i s = .next t → i ≠ .loadQueueBurstDone → t.store.memory = s.store.memory) ∧
  (∀ s t : State, s.pending = [] → step s = .next t → t.store.memory = s.store.memory) ∧
  (∀ s t : State, s.PortLaw → step s = .next t → t.PortLaw)

/-- The outputs follow the state at every step: the stop request (R173), each chain's driver enable and drive level
by the six conditions of R119 and the slots of R121, and the feeder output, which never names a feeder marked
unavailable (R94). While a reset is applied no article weaves (R198, R180), which the drivers need because no rule
evaluates them then. -/
def Obligations.OutputsFollowAtEveryStep : Prop :=
  ∀ s t : State, (s.inReset = true → s.pick.engine = .noArticle) → s.StopFollows → s.DriversFollow →
    s.OutputAvailable → step s = .next t →
    (t.inReset = true → t.pick.engine = .noArticle) ∧ t.StopFollows ∧ t.DriversFollow ∧ t.OutputAvailable

/-- The links at every step: each attention output is asserted exactly while a flag of its link is set and enabled
(R193), a note slot is full exactly while its NOTE flag is set (R196), and no unassigned flag is ever set (R191,
R192). -/
def Obligations.LinksStaySound : Prop :=
  ∀ s t : State, step s = .next t → (s.AttentionFollows → t.AttentionFollows) ∧ (s.FlagsSound → t.FlagsSound)

/-- The tracker's values and the float guard's settings and runs stay in the ranges of their tables at every step (R1,
R3, R8, R17–R20, R72, R74, R79). -/
def Obligations.RangesKept : Prop :=
  ∀ s t : State, step s = .next t → (s.shaft.InRange → t.shaft.InRange) ∧
    (s.frame.FloatInRange → t.frame.FloatInRange)

/-- The law of the engine, the banks, the load queue and the pending frame is kept by every step: at most one bank
weaves and at most one is being loaded, ARMED and RETIRED stand only beside a WEAVING bank, the position names the
WEAVING bank, a frame is pending only in WEAVING and REFERENCED, a re-form is owed exactly while an article weaves
unreferenced (R22, R23, R36, R39, R107, R146, R147, R149, R160, R177). The re-forming flag is clear with no article (the
model's choice, log 35). -/
def Obligations.EngineLawKept : Prop :=
  ∀ s t : State, s.EngineLaw → step s = .next t → t.EngineLaw

/-- Under the law of the engine every step keeps: FIGURE columns below the width of the weaving article (R60, R136);
every record well shaped, complete from READY on, and the position a pick of its article (R23, R150); and a live table
whose sections hold together (R56, R128), with no section of no hooks, for SELVAGE and DEAD by the model's choice
(log 36). -/
def Obligations.ArticleAndTableLawsKept : Prop :=
  ∀ s t : State, s.EngineLaw → step s = .next t →
    (s.WidthLaw → t.WidthLaw) ∧ (s.PositionLaw → t.PositionLaw) ∧ (s.TableLaw → t.TableLaw)

/-- The state after reset meets every law that the steps keep. -/
def Obligations.ResetMeetsTheLaws : Prop :=
  State.reset.MemoryCanonical ∧ State.reset.PortLaw ∧ State.reset.inReset = false ∧ State.reset.StopFollows ∧
    State.reset.DriversFollow ∧ State.reset.OutputAvailable ∧ State.reset.AttentionFollows ∧ State.reset.FlagsSound ∧
    State.reset.shaft.InRange ∧ State.reset.frame.FloatInRange ∧ State.reset.EngineLaw ∧ State.reset.WidthLaw ∧
    State.reset.PositionLaw ∧ State.reset.TableLaw

/-! ## The shed and the feeder -/

/-- The column of a FIGURE hook (R58, R59): STRAIGHT repeats c0..c0+w−1; POINT runs up and back, each end taken once, and
for a width of 1 every hook takes c0. The column lies in c0..c0+w−1, so a section that passes the width check reads
columns of the article only (R34, R60). The lift is the weave bit at the row and column of R64 after face (R65).
The lift of every other hook: that of a SELVAGE hook is the bit of its selvage weave at the row of the pick value and the
column of its offset (R66); that of a DEAD hook (R57), and of a hook no used section holds (R55), is 0. In a table whose
sections hold together a hook's section is the one that holds it, by content (R55). A LEVEL frame delivers 0 for every
hook (R69); the staged selection holds for each chain the delivered lift of each of its positions, the hooks of R54 (for a
chain of length 0 an empty selection, the model's choice, log 33).
The float guard (R75–R78): in OFF, in a re-form and for a hook that is not FIGURE the computed lift is delivered; in a
forward frame BIND delivers the inverse for a FIGURE hook at limit and counts it, STOP delivers the computed lift and
marks the frame for any such hook. A hook is at limit when the limit of its lift's sense is not 0, its committed sense is
that sense and its run that limit. -/
def Obligations.FigureHooksReadTheirColumns : Prop :=
  (∀ c0 w k : Nat, 1 ≤ w → figureColumn c0 w .straight k = c0 + k % w) ∧
  (∀ c0 k : Nat, figureColumn c0 1 .point k = c0) ∧
  (∀ c0 w k : Nat, 2 ≤ w → figureColumn c0 w .point k =
    (if k % (2 * w - 2) < w then c0 + k % (2 * w - 2) else c0 + (2 * w - 2 - k % (2 * w - 2)))) ∧
  (∀ (c0 w k : Nat) (m : SectionMode), 1 ≤ w → c0 ≤ figureColumn c0 w m k ∧ figureColumn c0 w m k < c0 + w) ∧
  (∀ (t : HarnessTable) (width : Nat), t.fits width = true ↔
    ∀ (i : Fin 16) (x : Section) (c0 w : Nat) (m : SectionMode), t.sections[i] = some x → x.kind = .figure c0 w m →
      c0 + w - 1 < width) ∧
  (∀ (t : HarnessTable) (a : Article) (cells : List Byte) (d : Descriptor) (h c0 w e : Nat) (m : SectionMode)
    (x : Section) (g : Grid) (col : Nat) (he : e < 4), t.sectionAt h = some x → x.kind = .figure c0 w m →
    col = figureColumn c0 w m (h - x.first) → e = (cells.getD (col / 4) 0#8).toNat / 4 ^ (col % 4) % 4 →
    (a.weaves[(a.stepAt d.position.line d.position.step).system])[(⟨e, he⟩ : Fin 4)] = some g →
    computedLift t a cells d h =
      (g.bit ((d.position.line + (a.stepAt d.position.line d.position.step).shift) % g.height) (col % g.width) ^^
        a.face == .down)) ∧
  (∀ (t : HarnessTable) (h : Nat),
    (t.Sound → ∀ (i : Fin 16) (x : Section), t.sections[i] = some x → x.first ≤ h → h < x.first + x.count →
      t.sectionAt h = some x) ∧
    ((∀ (i : Fin 16) (x : Section), t.sections[i] = some x → h < x.first ∨ x.first + x.count ≤ h) →
      t.sectionAt h = none)) ∧
  (∀ (t : HarnessTable) (a : Article) (cells : List Byte) (d : Descriptor) (v : GuardView) (h : Nat),
    (t.sectionAt h = none → computedLift t a cells d h = false) ∧
    (∀ x, t.sectionAt h = some x → x.kind = .dead → computedLift t a cells d h = false) ∧
    (∀ x j g, t.sectionAt h = some x → x.kind = .selvage j → t.selvages[j] = some g →
      computedLift t a cells d h = g.bit (d.pickValue % g.height) ((h - x.first) % g.width)) ∧
    (d.level = true → deliveredLift t a cells d v h = false) ∧
    (d.level = false → d.kind ≠ .forward ∨ v.settings.mode ≠ .bind ∨ ¬ t.FigureHook h →
      deliveredLift t a cells d v h = computedLift t a cells d h) ∧
    (d.level = false → d.kind = .forward → v.settings.mode = .bind → t.FigureHook h →
      (v.AtLimit h (computedLift t a cells d h) → deliveredLift t a cells d v h = !computedLift t a cells d h) ∧
      (¬ v.AtLimit h (computedLift t a cells d h) →
        deliveredLift t a cells d v h = computedLift t a cells d h))) ∧
  (∀ (t : HarnessTable) (a : Article) (cells : List Byte) (d : Descriptor) (v : GuardView),
    (d.level = true ∨ d.kind ≠ .forward ∨ v.settings.mode ≠ .bind → bindCount t a cells d v = 0) ∧
    (d.level = false → d.kind = .forward → v.settings.mode = .bind → ∃ bound : List Nat, bound.Nodup ∧
      (∀ h, h ∈ bound ↔ h < t.hooks ∧ t.FigureHook h ∧ v.AtLimit h (computedLift t a cells d h)) ∧
      bindCount t a cells d v = bound.length) ∧
    (violates t a cells d v = true ↔ d.level = false ∧ d.kind = .forward ∧ v.settings.mode = .stop ∧
      ∃ h, h < t.hooks ∧ t.FigureHook h ∧ v.AtLimit h (computedLift t a cells d h))) ∧
  (∀ (t : HarnessTable) (lift : Nat → Bool) (c : Fin 8),
    (∃ l, (selectionOf t lift)[c] = some l ∧ l.length = (t.chains[c]).length ∧
      ∀ j, j < l.length → l.getD j false = lift (((t.chains.toList.take c.val).map (·.length)).sum + j)) ∧
    ∀ (sel : Selection) (j : Nat), j < (t.chains[c]).length →
      hookLift sel t (((t.chains.toList.take c.val).map (·.length)).sum + j) = ((sel[c]).getD []).getD j false) ∧
  (∀ (t : HarnessTable) (sel : Selection) (h : Nat), t.hooks = (t.chains.toList.map (·.length)).sum ∧
    (t.hooks ≤ h → hookLift sel t h = false))

/-- Feeder resolution (R88–R90): the feeder tried first is the primary, or in ALTERNATE mode with an alternate defined
the one whose turn it is; if it is available it is resolved, else the other one as a substitution if that exists and is
available, else none. What is resolved is available. -/
def Obligations.FeederResolution : Prop :=
  ∀ (e : FeederEntry) (turn : Alternation) (av : Vector Bool 8),
    (e.mode = .single ∨ e.alternate = none ∨ turn = .primaryNext →
      (av[e.primary] = true → resolveFeeder (some e) turn av = (some e.primary, false)) ∧
      (∀ a, av[e.primary] = false → e.alternate = some a → av[a] = true →
        resolveFeeder (some e) turn av = (some a, true)) ∧
      (∀ a, av[e.primary] = false → e.alternate = some a → av[a] = false →
        resolveFeeder (some e) turn av = (none, false)) ∧
      (av[e.primary] = false → e.alternate = none → resolveFeeder (some e) turn av = (none, false))) ∧
    (∀ a, e.mode = .alternate → e.alternate = some a → turn = .alternateNext →
      (av[a] = true → resolveFeeder (some e) turn av = (some a, false)) ∧
      (av[a] = false → av[e.primary] = true → resolveFeeder (some e) turn av = (some e.primary, true)) ∧
      (av[a] = false → av[e.primary] = false → resolveFeeder (some e) turn av = (none, false))) ∧
    (∀ f, (resolveFeeder (some e) turn av).1 = some f → av[f] = true)
end

