-- ==== Sys2Proof/Laws/State.lean ====
section
/-! SUPPORT. What each named update of the state writes and what it keeps. A conjunction tagged simp gives one rewrite
for each of its parts. -/

namespace Sys2Proof.Machine

variable (s : State)

/-! ## Links -/

@[simp] theorem link_loom : s.link .loom = s.loom := rfl
@[simp] theorem link_design : s.link .design = s.design := rfl
@[simp] theorem otherLink_loom : otherLink .loom = .design := rfl
@[simp] theorem otherLink_design : otherLink .design = .loom := rfl
@[simp] theorem setLink_loom (l : LinkState) : s.setLink .loom l = { s with loom := l } := rfl
@[simp] theorem setLink_design (l : LinkState) : s.setLink .design l = { s with design := l } := rfl

@[simp] theorem otherLink_otherLink (k : Link) : otherLink (otherLink k) = k := by cases k <;> rfl
@[simp] theorem otherLink_ne (k : Link) : otherLink k ≠ k := by cases k <;> decide

/-- Replacing a link's interface keeps every block and the model's own fields. -/
@[simp] theorem setLink_keeps (k : Link) (l : LinkState) :
    (s.setLink k l).shaft = s.shaft ∧ (s.setLink k l).pick = s.pick ∧ (s.setLink k l).frame = s.frame ∧
      (s.setLink k l).harness = s.harness ∧ (s.setLink k l).store = s.store ∧ (s.setLink k l).inReset = s.inReset ∧
      (s.setLink k l).freeDraws = s.freeDraws ∧ (s.setLink k l).pending = s.pending ∧
      (s.setLink k l).wires = s.wires := by
  cases k <;> exact ⟨rfl, rfl, rfl, rfl, rfl, rfl, rfl, rfl, rfl⟩

@[simp] theorem link_setLink (k : Link) (l : LinkState) : (s.setLink k l).link k = l := by cases k <;> rfl

@[simp] theorem link_setLink_other (k : Link) (l : LinkState) :
    (s.setLink k l).link (otherLink k) = s.link (otherLink k) := by cases k <;> rfl

@[simp] theorem link_other_setLink (k : Link) (l : LinkState) :
    (s.setLink (otherLink k) l).link k = s.link k := by cases k <;> rfl

@[simp] theorem setLink_link (k : Link) : s.setLink k (s.link k) = s := by cases k <;> rfl

/-- Writing flags and enables keeps a link's phase, note, refusal record and reply, and attention follows (R193). -/
@[simp] theorem setFlags_fields (l : LinkState) (f e : BitVec 16) :
    (l.setFlags f e).phase = l.phase ∧ (l.setFlags f e).received = l.received ∧ (l.setFlags f e).place = l.place ∧
      (l.setFlags f e).flags = f ∧ (l.setFlags f e).enables = e ∧
      (l.setFlags f e).attention = ((f &&& e) != 0#16) ∧ (l.setFlags f e).noteSlot = l.noteSlot ∧
      (l.setFlags f e).refusal = l.refusal ∧
      (l.setFlags f e).reply = l.reply := ⟨rfl, rfl, rfl, rfl, rfl, rfl, rfl, rfl, rfl⟩

/-- An answer writes a link's phase, reply and refusal record alone (R182, R183, R188). -/
@[simp] theorem LinkState.answer_fields (code : Byte) (r : Reply) (l : LinkState) :
    (l.answer code r).phase = .turnaround ∧ (l.answer code r).received = [] ∧ (l.answer code r).place = 0 ∧
      (l.answer code r).flags = l.flags ∧
      (l.answer code r).enables = l.enables ∧ (l.answer code r).attention = l.attention ∧
      (l.answer code r).noteSlot = l.noteSlot ∧ (l.answer code r).reply = some r.frame ∧
      (l.answer code r).refusal = r.record code l.refusal := ⟨rfl, rfl, rfl, rfl, rfl, rfl, rfl, rfl, rfl⟩

/-- An answered command keeps every block. -/
@[simp] theorem answer_keeps (k : Link) (code : Byte) (r : Reply) :
    (answer k code r s).shaft = s.shaft ∧ (answer k code r s).pick = s.pick ∧
      (answer k code r s).frame = s.frame ∧ (answer k code r s).harness = s.harness ∧
      (answer k code r s).store = s.store ∧ (answer k code r s).inReset = s.inReset ∧
      (answer k code r s).freeDraws = s.freeDraws ∧ (answer k code r s).pending = s.pending ∧
      (answer k code r s).wires = s.wires := by
  simp [answer]

@[simp] theorem link_answer (k : Link) (code : Byte) (r : Reply) :
    (answer k code r s).link k = (s.link k).answer code r := by simp [answer]

@[simp] theorem link_answer_other (k : Link) (code : Byte) (r : Reply) :
    (answer k code r s).link (otherLink k) = s.link (otherLink k) := by simp [answer]

/-- Raising an event keeps every block. -/
@[simp] theorem raise_keeps (k : Link) (e : Event) :
    (raise k e s).shaft = s.shaft ∧ (raise k e s).pick = s.pick ∧ (raise k e s).frame = s.frame ∧
      (raise k e s).harness = s.harness ∧ (raise k e s).store = s.store ∧ (raise k e s).inReset = s.inReset ∧
      (raise k e s).freeDraws = s.freeDraws ∧ (raise k e s).pending = s.pending ∧ (raise k e s).wires = s.wires := by
  simp [raise]

@[simp] theorem link_raise (k : Link) (e : Event) :
    (raise k e s).link k = (s.link k).setFlags ((s.link k).flags ||| eventBit k e) (s.link k).enables := by
  simp [raise]

@[simp] theorem link_raise_other (k : Link) (e : Event) :
    (raise k e s).link (otherLink k) = s.link (otherLink k) := by simp [raise]

@[simp] theorem raise_loom_design (e : Event) : (raise .loom e s).design = s.design := rfl
@[simp] theorem raise_design_loom (e : Event) : (raise .design e s).loom = s.loom := rfl

@[simp] theorem raise_loom_loom (e : Event) :
    (raise .loom e s).loom = s.loom.setFlags (s.loom.flags ||| eventBit .loom e) s.loom.enables := rfl

@[simp] theorem raise_design_design (e : Event) :
    (raise .design e s).design = s.design.setFlags (s.design.flags ||| eventBit .design e) s.design.enables := rfl

/-- Raising an event on both links keeps every block and raises it on each. -/
@[simp] theorem raiseBoth_fields (e : Event) :
    (raiseBoth e s).shaft = s.shaft ∧ (raiseBoth e s).pick = s.pick ∧ (raiseBoth e s).frame = s.frame ∧
      (raiseBoth e s).harness = s.harness ∧ (raiseBoth e s).store = s.store ∧ (raiseBoth e s).inReset = s.inReset ∧
      (raiseBoth e s).freeDraws = s.freeDraws ∧ (raiseBoth e s).pending = s.pending ∧ (raiseBoth e s).wires = s.wires ∧
      (raiseBoth e s).loom = s.loom.setFlags (s.loom.flags ||| eventBit .loom e) s.loom.enables ∧
      (raiseBoth e s).design = s.design.setFlags (s.design.flags ||| eventBit .design e) s.design.enables := by
  and_intros <;> rfl

@[simp] theorem raiseIf_true (k : Link) (e : Event) : raiseIf true k e s = raise k e s := rfl
@[simp] theorem raiseIf_false (k : Link) (e : Event) : raiseIf false k e s = s := rfl

/-- A conditional event keeps every block. -/
@[simp] theorem raiseIf_keeps (c : Bool) (k : Link) (e : Event) :
    (raiseIf c k e s).shaft = s.shaft ∧ (raiseIf c k e s).pick = s.pick ∧ (raiseIf c k e s).frame = s.frame ∧
      (raiseIf c k e s).harness = s.harness ∧ (raiseIf c k e s).store = s.store ∧
      (raiseIf c k e s).inReset = s.inReset ∧ (raiseIf c k e s).freeDraws = s.freeDraws ∧
      (raiseIf c k e s).pending = s.pending ∧ (raiseIf c k e s).wires = s.wires := by
  cases c <;> simp

@[simp] theorem raiseIf_loom_design (c : Bool) (e : Event) : (raiseIf c .loom e s).design = s.design := by
  cases c <;> rfl

@[simp] theorem raiseIf_design_loom (c : Bool) (e : Event) : (raiseIf c .design e s).loom = s.loom := by
  cases c <;> rfl

/-! ## Banks -/

@[simp] theorem bank_bankA : s.bank .bankA = s.store.bankA := rfl
@[simp] theorem bank_bankB : s.bank .bankB = s.store.bankB := rfl
@[simp] theorem otherBank_bankA : otherBank .bankA = .bankB := rfl
@[simp] theorem otherBank_bankB : otherBank .bankB = .bankA := rfl
@[simp] theorem otherBank_otherBank (b : BankId) : otherBank (otherBank b) = b := by cases b <;> rfl
@[simp] theorem otherBank_ne (b : BankId) : otherBank b ≠ b := by cases b <;> decide

/-- Replacing a bank keeps everything but the two banks. -/
@[simp] theorem setBank_keeps (b : BankId) (x : Bank) :
    (s.setBank b x).shaft = s.shaft ∧ (s.setBank b x).pick = s.pick ∧ (s.setBank b x).frame = s.frame ∧
      (s.setBank b x).harness = s.harness ∧ (s.setBank b x).loom = s.loom ∧ (s.setBank b x).design = s.design ∧
      (s.setBank b x).inReset = s.inReset ∧ (s.setBank b x).freeDraws = s.freeDraws ∧
      (s.setBank b x).pending = s.pending ∧ (s.setBank b x).wires = s.wires ∧
      (s.setBank b x).store.queue = s.store.queue ∧
      (s.setBank b x).store.readback = s.store.readback ∧ (s.setBank b x).store.port = s.store.port ∧
      (s.setBank b x).store.memory = s.store.memory := by
  cases b <;> exact ⟨rfl, rfl, rfl, rfl, rfl, rfl, rfl, rfl, rfl, rfl, rfl, rfl, rfl, rfl⟩

@[simp] theorem bank_setBank (b : BankId) (x : Bank) : (s.setBank b x).bank b = x := by cases b <;> rfl

@[simp] theorem bank_setBank_other (b : BankId) (x : Bank) :
    (s.setBank b x).bank (otherBank b) = s.bank (otherBank b) := by cases b <;> rfl

@[simp] theorem bank_other_setBank (b : BankId) (x : Bank) :
    (s.setBank (otherBank b) x).bank b = s.bank b := by cases b <;> rfl

/-- A bank with another state keeps its record and close result. -/
@[simp] theorem withState_fields (b : Bank) (x : BankState) :
    (b.withState x).state = x ∧ (b.withState x).record = b.record ∧
      (b.withState x).closeResult = b.closeResult := ⟨rfl, rfl, rfl⟩

/-- A bank with its retained position written keeps its state and close result. -/
@[simp] theorem withRetained_fields (b : Bank) (r : Option Retained) :
    (b.withRetained r).state = b.state ∧ (b.withRetained r).closeResult = b.closeResult ∧
      (b.withRetained r).record = b.record.map fun a => { a with retained := r } := ⟨rfl, rfl, rfl⟩

/-- Reads of the banks depend on the two banks alone. -/
theorem bank_congr {s t : State} (a : t.store.bankA = s.store.bankA) (b : t.store.bankB = s.store.bankB) (k : BankId) :
    t.bank k = s.bank k := by
  cases k
  · exact a
  · exact b

/-- Reads of the articles depend on the two banks alone. -/
theorem article_congr {s t : State} (a : t.store.bankA = s.store.bankA) (b : t.store.bankB = s.store.bankB)
    (k : BankId) : t.article k = s.article k := by rw [State.article, State.article, bank_congr a b]

/-! ## Faults and the stop request -/

/-- The stop request following writes that output alone (R173). -/
@[simp] theorem followStop_fields :
    (followStop s).shaft = s.shaft ∧ (followStop s).frame = s.frame ∧ (followStop s).harness = s.harness ∧
      (followStop s).store = s.store ∧ (followStop s).loom = s.loom ∧ (followStop s).design = s.design ∧
      (followStop s).inReset = s.inReset ∧ (followStop s).freeDraws = s.freeDraws ∧
      (followStop s).pending = s.pending ∧ (followStop s).wires = s.wires ∧
      (followStop s).pick = { s.pick with stopRequest := s.pick.fault.isSome || s.pick.engine == .unsynchronised } := by
  and_intros <;> rfl

/-- A fault report keeps every block but the pick engine's record and stop request, and the links' flags (R170–R173). -/
@[simp] theorem reportFault_keeps (kind : FaultKind) (cause : LossCause) :
    (reportFault kind cause s).shaft = s.shaft ∧ (reportFault kind cause s).frame = s.frame ∧
      (reportFault kind cause s).harness = s.harness ∧ (reportFault kind cause s).store = s.store ∧
      (reportFault kind cause s).inReset = s.inReset ∧ (reportFault kind cause s).freeDraws = s.freeDraws ∧
      (reportFault kind cause s).pending = s.pending ∧ (reportFault kind cause s).wires = s.wires ∧
      (reportFault kind cause s).pick.engine = s.pick.engine ∧
      (reportFault kind cause s).pick.position = s.pick.position ∧
      (reportFault kind cause s).pick.reforming = s.pick.reforming ∧
      (reportFault kind cause s).pick.counter = s.pick.counter ∧
      (reportFault kind cause s).pick.target = s.pick.target ∧
      (reportFault kind cause s).pick.exchangeNote = s.pick.exchangeNote ∧
      (reportFault kind cause s).pick.history = s.pick.history := by
  cases h : s.pick.fault <;> simp [reportFault, h, enterFirstFault, countLaterFault]

/-- After a fault report the record holds a fault. -/
@[simp] theorem reportFault_isSome (kind : FaultKind) (cause : LossCause) :
    (reportFault kind cause s).pick.fault.isSome = true := by
  cases h : s.pick.fault <;> simp [reportFault, h, enterFirstFault, countLaterFault]

/-- A report that finds the record empty (R171). -/
theorem reportFault_none (kind : FaultKind) (cause : LossCause) (h : s.pick.fault = none) :
    reportFault kind cause s = enterFirstFault kind cause s := by simp [reportFault, h]

/-- A report that finds the record held (R172). -/
theorem reportFault_some (kind : FaultKind) (cause : LossCause) (r : FaultRecord) (h : s.pick.fault = some r) :
    reportFault kind cause s = countLaterFault kind r s := by simp [reportFault, h]

/-! ## Drivers -/

/-- The drivers following writes the pins of the chains alone (R119, R121). -/
@[simp] theorem followDrivers_fields :
    (followDrivers s).shaft = s.shaft ∧ (followDrivers s).pick = s.pick ∧ (followDrivers s).frame = s.frame ∧
      (followDrivers s).store = s.store ∧ (followDrivers s).loom = s.loom ∧ (followDrivers s).design = s.design ∧
      (followDrivers s).inReset = s.inReset ∧ (followDrivers s).freeDraws = s.freeDraws ∧
      (followDrivers s).pending = s.pending ∧ (followDrivers s).wires = s.wires ∧
      (followDrivers s).harness.live = s.harness.live ∧
      (followDrivers s).harness.claim = s.harness.claim ∧ (followDrivers s).harness.keep = s.harness.keep ∧
      (followDrivers s).harness.fixed = s.harness.fixed ∧ (followDrivers s).harness.ra = s.harness.ra ∧
      (followDrivers s).harness.rb = s.harness.rb ∧ (followDrivers s).harness.drive = s.harness.drive ∧
      (followDrivers s).harness.stage = s.harness.stage ∧ (followDrivers s).harness.timer = s.harness.timer ∧
      (followDrivers s).harness.driversOn = Vector.ofFn s.wantsDriver ∧
      (followDrivers s).harness.levels = Vector.ofFn s.harness.wantsLevel := by
  and_intros <;> rfl

/-- A restart of the standstill timer writes the stage, the timer and the pins of the chains alone (R122). -/
@[simp] theorem restartStandstill_fields :
    (restartStandstill s).shaft = s.shaft ∧ (restartStandstill s).pick = s.pick ∧
      (restartStandstill s).frame = s.frame ∧ (restartStandstill s).store = s.store ∧
      (restartStandstill s).loom = s.loom ∧ (restartStandstill s).design = s.design ∧
      (restartStandstill s).inReset = s.inReset ∧ (restartStandstill s).freeDraws = s.freeDraws ∧
      (restartStandstill s).pending = s.pending ∧ (restartStandstill s).wires = s.wires ∧
      (restartStandstill s).harness.live = s.harness.live ∧
      (restartStandstill s).harness.claim = s.harness.claim ∧ (restartStandstill s).harness.keep = s.harness.keep ∧
      (restartStandstill s).harness.fixed = s.harness.fixed ∧ (restartStandstill s).harness.ra = s.harness.ra ∧
      (restartStandstill s).harness.rb = s.harness.rb ∧ (restartStandstill s).harness.drive = s.harness.drive ∧
      (restartStandstill s).harness.stage = .run ∧ (restartStandstill s).harness.timer = s.restartedTimer := by
  and_intros <;> rfl

/-! ## Small updates -/

/-- Setting the position writes it alone (R23). -/
@[simp] theorem setPosition_fields (p : Position) :
    setPosition p s = { s with pick := { s.pick with position := some p } } := rfl

@[simp] theorem clearFloat_fields : clearFloat s = { s with frame := { s.frame with committed := [] } } := rfl

@[simp] theorem countUp_fields (n : Nat) :
    countUp n s = { s with pick := { s.pick with counter := min (s.pick.counter + n) maxCount } } := rfl

@[simp] theorem countDown_fields (n : Nat) :
    countDown n s = { s with pick := { s.pick with counter := s.pick.counter - n } } := rfl

/-- The abandonment of a requester's work writes the port alone (R163). -/
@[simp] theorem dropBurst_keeps (r : Requester) :
    (dropBurst r s).shaft = s.shaft ∧ (dropBurst r s).pick = s.pick ∧ (dropBurst r s).frame = s.frame ∧
      (dropBurst r s).harness = s.harness ∧ (dropBurst r s).loom = s.loom ∧ (dropBurst r s).design = s.design ∧
      (dropBurst r s).inReset = s.inReset ∧ (dropBurst r s).freeDraws = s.freeDraws ∧
      (dropBurst r s).pending = s.pending ∧ (dropBurst r s).wires = s.wires ∧
      (dropBurst r s).store.bankA = s.store.bankA ∧
      (dropBurst r s).store.bankB = s.store.bankB ∧ (dropBurst r s).store.queue = s.store.queue ∧
      (dropBurst r s).store.readback = s.store.readback ∧ (dropBurst r s).store.memory = s.store.memory := by
  and_intros <;> rfl

/-- A grant writes the port alone (R163). -/
@[simp] theorem grant_keeps :
    (grant s).shaft = s.shaft ∧ (grant s).pick = s.pick ∧ (grant s).frame = s.frame ∧
      (grant s).harness = s.harness ∧ (grant s).loom = s.loom ∧ (grant s).design = s.design ∧
      (grant s).inReset = s.inReset ∧ (grant s).freeDraws = s.freeDraws ∧ (grant s).pending = s.pending ∧
      (grant s).wires = s.wires ∧
      (grant s).store.bankA = s.store.bankA ∧ (grant s).store.bankB = s.store.bankB ∧
      (grant s).store.queue = s.store.queue ∧ (grant s).store.readback = s.store.readback ∧
      (grant s).store.memory = s.store.memory := by
  cases h : s.store.port <;> simp [grant, h]

/-- A discard writes the slot, the staged selection, the re-forming flag and the port alone (R108). -/
@[simp] theorem discard_fields :
    (discard s).shaft = s.shaft ∧ (discard s).harness = s.harness ∧ (discard s).loom = s.loom ∧
      (discard s).design = s.design ∧ (discard s).inReset = s.inReset ∧ (discard s).freeDraws = s.freeDraws ∧
      (discard s).pending = s.pending ∧ (discard s).wires = s.wires ∧ (discard s).store.bankA = s.store.bankA ∧
      (discard s).store.bankB = s.store.bankB ∧ (discard s).store.queue = s.store.queue ∧
      (discard s).store.readback = s.store.readback ∧ (discard s).store.memory = s.store.memory ∧
      (discard s).frame = { s.frame with slot := .empty, staged := .empty } ∧
      (discard s).pick = { s.pick with reforming := s.pick.reforming && !s.frame.slot.isReform } := by
  and_intros <;> rfl

/-- The port becoming free writes the port alone (R163). -/
@[simp] theorem freePort_fields : freePort s = { s with store := { s.store with port := none } } := rfl

end Sys2Proof.Machine
end

