-- ==== Sys2Proof/Laws/Kept.lean ====
section
/-! SUPPORT. What each shared operation of the frame builder, the pick engine and the tracker keeps: one lemma for each,
a conjunction with a part for every block or field it leaves as it was. -/

namespace Sys2Proof.Machine

variable (s : State)

/-! ## Links -/

/-- A fault report leaves the links' phases and places, enables, notes, refusals and replies. -/
theorem linkKept_reportFault (kind : FaultKind) (cause : LossCause) :
    (reportFault kind cause s).loom.phase = s.loom.phase ∧
      (reportFault kind cause s).loom.received = s.loom.received ∧
      (reportFault kind cause s).loom.place = s.loom.place ∧ (reportFault kind cause s).loom.enables = s.loom.enables ∧
      (reportFault kind cause s).loom.noteSlot = s.loom.noteSlot ∧
      (reportFault kind cause s).loom.refusal = s.loom.refusal ∧ (reportFault kind cause s).loom.reply = s.loom.reply ∧
      (reportFault kind cause s).design.phase = s.design.phase ∧
      (reportFault kind cause s).design.received = s.design.received ∧
      (reportFault kind cause s).design.place = s.design.place ∧
      (reportFault kind cause s).design.enables = s.design.enables ∧
      (reportFault kind cause s).design.noteSlot = s.design.noteSlot ∧
      (reportFault kind cause s).design.refusal = s.design.refusal ∧
      (reportFault kind cause s).design.reply = s.design.reply := by
  cases h : s.pick.fault <;> simp [reportFault, h, enterFirstFault, countLaterFault]

/-- A conditional event leaves the links' phases and places, enables, notes, refusals and replies. -/
theorem linkKept_raiseIf (c : Bool) (k : Link) (e : Event) :
    (raiseIf c k e s).loom.phase = s.loom.phase ∧ (raiseIf c k e s).loom.received = s.loom.received ∧
      (raiseIf c k e s).loom.place = s.loom.place ∧ (raiseIf c k e s).loom.enables = s.loom.enables ∧
      (raiseIf c k e s).loom.noteSlot = s.loom.noteSlot ∧ (raiseIf c k e s).loom.refusal = s.loom.refusal ∧
      (raiseIf c k e s).loom.reply = s.loom.reply ∧ (raiseIf c k e s).design.phase = s.design.phase ∧
      (raiseIf c k e s).design.received = s.design.received ∧ (raiseIf c k e s).design.place = s.design.place ∧
      (raiseIf c k e s).design.enables = s.design.enables ∧
      (raiseIf c k e s).design.noteSlot = s.design.noteSlot ∧ (raiseIf c k e s).design.refusal = s.design.refusal ∧
      (raiseIf c k e s).design.reply = s.design.reply := by
  cases c <;> cases k <;> simp [raise]

/-! ## Weft selection -/

/-- The report of a resolution writes the fault record, the stop request and flags alone (R91). -/
@[simp] theorem raiseResolution_keeps (r : Option (Fin 8) × Bool) :
    (raiseResolution r s).shaft = s.shaft ∧ (raiseResolution r s).pick.engine = s.pick.engine ∧
      (raiseResolution r s).pick.position = s.pick.position ∧
      (raiseResolution r s).pick.reforming = s.pick.reforming ∧ (raiseResolution r s).pick.counter = s.pick.counter ∧
      (raiseResolution r s).pick.target = s.pick.target ∧
      (raiseResolution r s).pick.exchangeNote = s.pick.exchangeNote ∧
      (raiseResolution r s).pick.history = s.pick.history ∧ (raiseResolution r s).frame = s.frame ∧
      (raiseResolution r s).harness = s.harness ∧ (raiseResolution r s).store = s.store ∧
      (raiseResolution r s).loom.phase = s.loom.phase ∧ (raiseResolution r s).loom.received = s.loom.received ∧
      (raiseResolution r s).loom.place = s.loom.place ∧ (raiseResolution r s).loom.enables = s.loom.enables ∧
      (raiseResolution r s).loom.noteSlot = s.loom.noteSlot ∧ (raiseResolution r s).loom.refusal = s.loom.refusal ∧
      (raiseResolution r s).loom.reply = s.loom.reply ∧ (raiseResolution r s).design.phase = s.design.phase ∧
      (raiseResolution r s).design.received = s.design.received ∧
      (raiseResolution r s).design.place = s.design.place ∧ (raiseResolution r s).design.enables = s.design.enables ∧
      (raiseResolution r s).design.noteSlot = s.design.noteSlot ∧
      (raiseResolution r s).design.refusal = s.design.refusal ∧ (raiseResolution r s).design.reply = s.design.reply ∧
      (raiseResolution r s).inReset = s.inReset ∧ (raiseResolution r s).freeDraws = s.freeDraws ∧
      (raiseResolution r s).pending = s.pending ∧ (raiseResolution r s).wires = s.wires := by
  unfold raiseResolution
  split
  · exact by simp [linkKept_reportFault]
  · simp [linkKept_raiseIf]

/-- Setting the feeder output writes it and its record alone (R94). -/
@[simp] theorem setOutput_keeps (f : Option (Fin 8)) (r : Option OutputRecord) :
    (setOutput f r s).shaft = s.shaft ∧ (setOutput f r s).pick = s.pick ∧
      (setOutput f r s).frame.slot = s.frame.slot ∧ (setOutput f r s).frame.owed = s.frame.owed ∧
      (setOutput f r s).frame.latchedDesc = s.frame.latchedDesc ∧
      (setOutput f r s).frame.pickFeeder = s.frame.pickFeeder ∧ (setOutput f r s).frame.staged = s.frame.staged ∧
      (setOutput f r s).frame.latched = s.frame.latched ∧ (setOutput f r s).frame.level = s.frame.level ∧
      (setOutput f r s).frame.guard = s.frame.guard ∧ (setOutput f r s).frame.committed = s.frame.committed ∧
      (setOutput f r s).frame.available = s.frame.available ∧
      (setOutput f r s).frame.alternation = s.frame.alternation ∧ (setOutput f r s).frame.gate = s.frame.gate ∧
      (setOutput f r s).harness = s.harness ∧ (setOutput f r s).store = s.store ∧ (setOutput f r s).loom = s.loom ∧
      (setOutput f r s).design = s.design ∧ (setOutput f r s).inReset = s.inReset ∧
      (setOutput f r s).freeDraws = s.freeDraws ∧ (setOutput f r s).pending = s.pending ∧
      (setOutput f r s).wires = s.wires := by
  simp [setOutput]

/-- Re-resolving the feeder output writes it, its record, the fault record and flags alone (R97). -/
@[simp] theorem reResolveOutput_keeps (r : OutputRecord) :
    (reResolveOutput r s).shaft = s.shaft ∧ (reResolveOutput r s).pick.engine = s.pick.engine ∧
      (reResolveOutput r s).pick.position = s.pick.position ∧
      (reResolveOutput r s).pick.reforming = s.pick.reforming ∧ (reResolveOutput r s).pick.counter = s.pick.counter ∧
      (reResolveOutput r s).pick.target = s.pick.target ∧
      (reResolveOutput r s).pick.exchangeNote = s.pick.exchangeNote ∧
      (reResolveOutput r s).pick.history = s.pick.history ∧ (reResolveOutput r s).frame.slot = s.frame.slot ∧
      (reResolveOutput r s).frame.owed = s.frame.owed ∧
      (reResolveOutput r s).frame.latchedDesc = s.frame.latchedDesc ∧
      (reResolveOutput r s).frame.pickFeeder = s.frame.pickFeeder ∧
      (reResolveOutput r s).frame.staged = s.frame.staged ∧ (reResolveOutput r s).frame.latched = s.frame.latched ∧
      (reResolveOutput r s).frame.level = s.frame.level ∧ (reResolveOutput r s).frame.guard = s.frame.guard ∧
      (reResolveOutput r s).frame.committed = s.frame.committed ∧
      (reResolveOutput r s).frame.available = s.frame.available ∧
      (reResolveOutput r s).frame.alternation = s.frame.alternation ∧
      (reResolveOutput r s).frame.gate = s.frame.gate ∧ (reResolveOutput r s).harness = s.harness ∧
      (reResolveOutput r s).store = s.store ∧ (reResolveOutput r s).loom.phase = s.loom.phase ∧
      (reResolveOutput r s).loom.received = s.loom.received ∧ (reResolveOutput r s).loom.place = s.loom.place ∧
      (reResolveOutput r s).loom.enables = s.loom.enables ∧ (reResolveOutput r s).loom.noteSlot = s.loom.noteSlot ∧
      (reResolveOutput r s).loom.refusal = s.loom.refusal ∧ (reResolveOutput r s).loom.reply = s.loom.reply ∧
      (reResolveOutput r s).design.phase = s.design.phase ∧
      (reResolveOutput r s).design.received = s.design.received ∧
      (reResolveOutput r s).design.place = s.design.place ∧ (reResolveOutput r s).design.enables = s.design.enables ∧
      (reResolveOutput r s).design.noteSlot = s.design.noteSlot ∧
      (reResolveOutput r s).design.refusal = s.design.refusal ∧ (reResolveOutput r s).design.reply = s.design.reply ∧
      (reResolveOutput r s).inReset = s.inReset ∧ (reResolveOutput r s).freeDraws = s.freeDraws ∧
      (reResolveOutput r s).pending = s.pending ∧ (reResolveOutput r s).wires = s.wires := by
  unfold reResolveOutput
  dsimp only
  split <;> simp [linkKept_reportFault, linkKept_raiseIf]

/-- Presenting a feeder writes what a re-resolution writes (R95, R96). -/
@[simp] theorem presentFeeder_keeps (f : Option (Fin 8)) (d : Descriptor) :
    (presentFeeder f d s).shaft = s.shaft ∧ (presentFeeder f d s).pick.engine = s.pick.engine ∧
      (presentFeeder f d s).pick.position = s.pick.position ∧
      (presentFeeder f d s).pick.reforming = s.pick.reforming ∧ (presentFeeder f d s).pick.counter = s.pick.counter ∧
      (presentFeeder f d s).pick.target = s.pick.target ∧
      (presentFeeder f d s).pick.exchangeNote = s.pick.exchangeNote ∧
      (presentFeeder f d s).pick.history = s.pick.history ∧ (presentFeeder f d s).frame.slot = s.frame.slot ∧
      (presentFeeder f d s).frame.owed = s.frame.owed ∧
      (presentFeeder f d s).frame.latchedDesc = s.frame.latchedDesc ∧
      (presentFeeder f d s).frame.pickFeeder = s.frame.pickFeeder ∧
      (presentFeeder f d s).frame.staged = s.frame.staged ∧ (presentFeeder f d s).frame.latched = s.frame.latched ∧
      (presentFeeder f d s).frame.level = s.frame.level ∧ (presentFeeder f d s).frame.guard = s.frame.guard ∧
      (presentFeeder f d s).frame.committed = s.frame.committed ∧
      (presentFeeder f d s).frame.available = s.frame.available ∧
      (presentFeeder f d s).frame.alternation = s.frame.alternation ∧
      (presentFeeder f d s).frame.gate = s.frame.gate ∧ (presentFeeder f d s).harness = s.harness ∧
      (presentFeeder f d s).store = s.store ∧ (presentFeeder f d s).loom.phase = s.loom.phase ∧
      (presentFeeder f d s).loom.received = s.loom.received ∧ (presentFeeder f d s).loom.place = s.loom.place ∧
      (presentFeeder f d s).loom.enables = s.loom.enables ∧ (presentFeeder f d s).loom.noteSlot = s.loom.noteSlot ∧
      (presentFeeder f d s).loom.refusal = s.loom.refusal ∧ (presentFeeder f d s).loom.reply = s.loom.reply ∧
      (presentFeeder f d s).design.phase = s.design.phase ∧
      (presentFeeder f d s).design.received = s.design.received ∧
      (presentFeeder f d s).design.place = s.design.place ∧ (presentFeeder f d s).design.enables = s.design.enables ∧
      (presentFeeder f d s).design.noteSlot = s.design.noteSlot ∧
      (presentFeeder f d s).design.refusal = s.design.refusal ∧ (presentFeeder f d s).design.reply = s.design.reply ∧
      (presentFeeder f d s).inReset = s.inReset ∧ (presentFeeder f d s).freeDraws = s.freeDraws ∧
      (presentFeeder f d s).pending = s.pending ∧ (presentFeeder f d s).wires = s.wires := by
  unfold presentFeeder
  dsimp only
  split <;> simp

/-- A crossing of S writes the feeder output and what a re-resolution raises (R95). -/
@[simp] theorem weftSelect_keeps  :
    (weftSelect s).shaft = s.shaft ∧ (weftSelect s).pick.engine = s.pick.engine ∧
      (weftSelect s).pick.position = s.pick.position ∧ (weftSelect s).pick.reforming = s.pick.reforming ∧
      (weftSelect s).pick.counter = s.pick.counter ∧ (weftSelect s).pick.target = s.pick.target ∧
      (weftSelect s).pick.exchangeNote = s.pick.exchangeNote ∧ (weftSelect s).pick.history = s.pick.history ∧
      (weftSelect s).frame.slot = s.frame.slot ∧ (weftSelect s).frame.owed = s.frame.owed ∧
      (weftSelect s).frame.latchedDesc = s.frame.latchedDesc ∧ (weftSelect s).frame.pickFeeder = s.frame.pickFeeder ∧
      (weftSelect s).frame.staged = s.frame.staged ∧ (weftSelect s).frame.latched = s.frame.latched ∧
      (weftSelect s).frame.level = s.frame.level ∧ (weftSelect s).frame.guard = s.frame.guard ∧
      (weftSelect s).frame.committed = s.frame.committed ∧ (weftSelect s).frame.available = s.frame.available ∧
      (weftSelect s).frame.alternation = s.frame.alternation ∧ (weftSelect s).frame.gate = s.frame.gate ∧
      (weftSelect s).harness = s.harness ∧ (weftSelect s).store = s.store ∧
      (weftSelect s).loom.phase = s.loom.phase ∧ (weftSelect s).loom.received = s.loom.received ∧
      (weftSelect s).loom.place = s.loom.place ∧ (weftSelect s).loom.enables = s.loom.enables ∧
      (weftSelect s).loom.noteSlot = s.loom.noteSlot ∧ (weftSelect s).loom.refusal = s.loom.refusal ∧
      (weftSelect s).loom.reply = s.loom.reply ∧ (weftSelect s).design.phase = s.design.phase ∧
      (weftSelect s).design.received = s.design.received ∧ (weftSelect s).design.place = s.design.place ∧
      (weftSelect s).design.enables = s.design.enables ∧ (weftSelect s).design.noteSlot = s.design.noteSlot ∧
      (weftSelect s).design.refusal = s.design.refusal ∧ (weftSelect s).design.reply = s.design.reply ∧
      (weftSelect s).inReset = s.inReset ∧ (weftSelect s).freeDraws = s.freeDraws ∧
      (weftSelect s).pending = s.pending ∧ (weftSelect s).wires = s.wires := by
  unfold weftSelect
  split
  · simp
  · split
    · simp
    · split <;> simp

/-- The gate marks write the gate alone (R99). -/
@[simp] theorem gateMarks_keeps (on off : Bool) :
    (gateMarks on off s).shaft = s.shaft ∧ (gateMarks on off s).pick = s.pick ∧
      (gateMarks on off s).frame.slot = s.frame.slot ∧ (gateMarks on off s).frame.owed = s.frame.owed ∧
      (gateMarks on off s).frame.latchedDesc = s.frame.latchedDesc ∧
      (gateMarks on off s).frame.pickFeeder = s.frame.pickFeeder ∧
      (gateMarks on off s).frame.staged = s.frame.staged ∧ (gateMarks on off s).frame.latched = s.frame.latched ∧
      (gateMarks on off s).frame.level = s.frame.level ∧ (gateMarks on off s).frame.guard = s.frame.guard ∧
      (gateMarks on off s).frame.committed = s.frame.committed ∧
      (gateMarks on off s).frame.available = s.frame.available ∧
      (gateMarks on off s).frame.alternation = s.frame.alternation ∧
      (gateMarks on off s).frame.output = s.frame.output ∧
      (gateMarks on off s).frame.outputRecord = s.frame.outputRecord ∧ (gateMarks on off s).harness = s.harness ∧
      (gateMarks on off s).store = s.store ∧ (gateMarks on off s).loom = s.loom ∧
      (gateMarks on off s).design = s.design ∧ (gateMarks on off s).inReset = s.inReset ∧
      (gateMarks on off s).freeDraws = s.freeDraws ∧ (gateMarks on off s).pending = s.pending ∧
      (gateMarks on off s).wires = s.wires := by
  unfold gateMarks
  split
  · simp
  · split <;> simp

/-- FEEDER OUT writes the availability and what a re-resolution writes (R86, R97). -/
@[simp] theorem takeFeederOut_keeps (f : Fin 8) :
    (takeFeederOut f s).shaft = s.shaft ∧ (takeFeederOut f s).pick.engine = s.pick.engine ∧
      (takeFeederOut f s).pick.position = s.pick.position ∧ (takeFeederOut f s).pick.reforming = s.pick.reforming ∧
      (takeFeederOut f s).pick.counter = s.pick.counter ∧ (takeFeederOut f s).pick.target = s.pick.target ∧
      (takeFeederOut f s).pick.exchangeNote = s.pick.exchangeNote ∧
      (takeFeederOut f s).pick.history = s.pick.history ∧ (takeFeederOut f s).frame.slot = s.frame.slot ∧
      (takeFeederOut f s).frame.owed = s.frame.owed ∧ (takeFeederOut f s).frame.latchedDesc = s.frame.latchedDesc ∧
      (takeFeederOut f s).frame.pickFeeder = s.frame.pickFeeder ∧ (takeFeederOut f s).frame.staged = s.frame.staged ∧
      (takeFeederOut f s).frame.latched = s.frame.latched ∧ (takeFeederOut f s).frame.level = s.frame.level ∧
      (takeFeederOut f s).frame.guard = s.frame.guard ∧ (takeFeederOut f s).frame.committed = s.frame.committed ∧
      (takeFeederOut f s).frame.alternation = s.frame.alternation ∧ (takeFeederOut f s).frame.gate = s.frame.gate ∧
      (takeFeederOut f s).harness = s.harness ∧ (takeFeederOut f s).store = s.store ∧
      (takeFeederOut f s).loom.phase = s.loom.phase ∧ (takeFeederOut f s).loom.received = s.loom.received ∧
      (takeFeederOut f s).loom.place = s.loom.place ∧ (takeFeederOut f s).loom.enables = s.loom.enables ∧
      (takeFeederOut f s).loom.noteSlot = s.loom.noteSlot ∧ (takeFeederOut f s).loom.refusal = s.loom.refusal ∧
      (takeFeederOut f s).loom.reply = s.loom.reply ∧ (takeFeederOut f s).design.phase = s.design.phase ∧
      (takeFeederOut f s).design.received = s.design.received ∧ (takeFeederOut f s).design.place = s.design.place ∧
      (takeFeederOut f s).design.enables = s.design.enables ∧
      (takeFeederOut f s).design.noteSlot = s.design.noteSlot ∧
      (takeFeederOut f s).design.refusal = s.design.refusal ∧ (takeFeederOut f s).design.reply = s.design.reply ∧
      (takeFeederOut f s).inReset = s.inReset ∧ (takeFeederOut f s).freeDraws = s.freeDraws ∧
      (takeFeederOut f s).pending = s.pending ∧ (takeFeederOut f s).wires = s.wires := by
  unfold takeFeederOut
  dsimp only
  split
  · split <;> simp
  · simp

/-! ## Frames -/

/-- The computation writes the slot and the staged selection alone (R111). -/
@[simp] theorem computeFrame_keeps (d : Descriptor) (v : GuardView) (cells : List Byte) :
    (computeFrame d v cells s).shaft = s.shaft ∧ (computeFrame d v cells s).pick = s.pick ∧
      (computeFrame d v cells s).frame.owed = s.frame.owed ∧
      (computeFrame d v cells s).frame.latchedDesc = s.frame.latchedDesc ∧
      (computeFrame d v cells s).frame.pickFeeder = s.frame.pickFeeder ∧
      (computeFrame d v cells s).frame.latched = s.frame.latched ∧
      (computeFrame d v cells s).frame.level = s.frame.level ∧
      (computeFrame d v cells s).frame.guard = s.frame.guard ∧
      (computeFrame d v cells s).frame.committed = s.frame.committed ∧
      (computeFrame d v cells s).frame.available = s.frame.available ∧
      (computeFrame d v cells s).frame.alternation = s.frame.alternation ∧
      (computeFrame d v cells s).frame.output = s.frame.output ∧
      (computeFrame d v cells s).frame.outputRecord = s.frame.outputRecord ∧
      (computeFrame d v cells s).frame.gate = s.frame.gate ∧ (computeFrame d v cells s).harness = s.harness ∧
      (computeFrame d v cells s).store = s.store ∧ (computeFrame d v cells s).loom = s.loom ∧
      (computeFrame d v cells s).design = s.design ∧ (computeFrame d v cells s).inReset = s.inReset ∧
      (computeFrame d v cells s).freeDraws = s.freeDraws ∧ (computeFrame d v cells s).pending = s.pending ∧
      (computeFrame d v cells s).wires = s.wires := by
  simp [computeFrame]

/-- An assembly start writes the slot, the staged selection, the re-forming flag, the port and what its resolution raises (R109). -/
@[simp] theorem beginFrame_keeps (kind : FrameKind) (p : Position) (swap : Bool) (n : Nat) :
    (beginFrame kind p swap n s).shaft = s.shaft ∧ (beginFrame kind p swap n s).pick.engine = s.pick.engine ∧
      (beginFrame kind p swap n s).pick.position = s.pick.position ∧
      (beginFrame kind p swap n s).pick.counter = s.pick.counter ∧
      (beginFrame kind p swap n s).pick.target = s.pick.target ∧
      (beginFrame kind p swap n s).pick.exchangeNote = s.pick.exchangeNote ∧
      (beginFrame kind p swap n s).pick.history = s.pick.history ∧
      (beginFrame kind p swap n s).frame.owed = s.frame.owed ∧
      (beginFrame kind p swap n s).frame.latchedDesc = s.frame.latchedDesc ∧
      (beginFrame kind p swap n s).frame.pickFeeder = s.frame.pickFeeder ∧
      (beginFrame kind p swap n s).frame.latched = s.frame.latched ∧
      (beginFrame kind p swap n s).frame.level = s.frame.level ∧
      (beginFrame kind p swap n s).frame.guard = s.frame.guard ∧
      (beginFrame kind p swap n s).frame.committed = s.frame.committed ∧
      (beginFrame kind p swap n s).frame.available = s.frame.available ∧
      (beginFrame kind p swap n s).frame.alternation = s.frame.alternation ∧
      (beginFrame kind p swap n s).frame.output = s.frame.output ∧
      (beginFrame kind p swap n s).frame.outputRecord = s.frame.outputRecord ∧
      (beginFrame kind p swap n s).frame.gate = s.frame.gate ∧ (beginFrame kind p swap n s).harness = s.harness ∧
      (beginFrame kind p swap n s).store.bankA = s.store.bankA ∧
      (beginFrame kind p swap n s).store.bankB = s.store.bankB ∧
      (beginFrame kind p swap n s).store.queue = s.store.queue ∧
      (beginFrame kind p swap n s).store.readback = s.store.readback ∧
      (beginFrame kind p swap n s).store.memory = s.store.memory ∧
      (beginFrame kind p swap n s).loom.phase = s.loom.phase ∧
      (beginFrame kind p swap n s).loom.received = s.loom.received ∧
      (beginFrame kind p swap n s).loom.place = s.loom.place ∧
      (beginFrame kind p swap n s).loom.enables = s.loom.enables ∧
      (beginFrame kind p swap n s).loom.noteSlot = s.loom.noteSlot ∧
      (beginFrame kind p swap n s).loom.refusal = s.loom.refusal ∧
      (beginFrame kind p swap n s).loom.reply = s.loom.reply ∧
      (beginFrame kind p swap n s).design.phase = s.design.phase ∧
      (beginFrame kind p swap n s).design.received = s.design.received ∧
      (beginFrame kind p swap n s).design.place = s.design.place ∧
      (beginFrame kind p swap n s).design.enables = s.design.enables ∧
      (beginFrame kind p swap n s).design.noteSlot = s.design.noteSlot ∧
      (beginFrame kind p swap n s).design.refusal = s.design.refusal ∧
      (beginFrame kind p swap n s).design.reply = s.design.reply ∧ (beginFrame kind p swap n s).inReset = s.inReset ∧
      (beginFrame kind p swap n s).freeDraws = s.freeDraws ∧ (beginFrame kind p swap n s).pending = s.pending ∧
      (beginFrame kind p swap n s).wires = s.wires := by
  unfold beginFrame
  dsimp only
  split <;> simp

/-- The completion of a forward frame writes the slot and the slack counter alone (R112). -/
@[simp] theorem completeForward_keeps  :
    (completeForward s).shaft.angle = s.shaft.angle ∧ (completeForward s).shaft.lines = s.shaft.lines ∧
      (completeForward s).shaft.reference = s.shaft.reference ∧ (completeForward s).shaft.cause = s.shaft.cause ∧
      (completeForward s).shaft.motion = s.shaft.motion ∧ (completeForward s).shaft.stillTimer = s.shaft.stillTimer ∧
      (completeForward s).shaft.offset = s.shaft.offset ∧ (completeForward s).shaft.timing = s.shaft.timing ∧
      (completeForward s).shaft.speed = s.shaft.speed ∧ (completeForward s).shaft.interval = s.shaft.interval ∧
      (completeForward s).shaft.intervalRunning = s.shaft.intervalRunning ∧
      (completeForward s).shaft.measuring = s.shaft.measuring ∧ (completeForward s).shaft.slack = s.shaft.slack ∧
      (completeForward s).shaft.margin = s.shaft.margin ∧ (completeForward s).pick = s.pick ∧
      (completeForward s).frame.owed = s.frame.owed ∧ (completeForward s).frame.latchedDesc = s.frame.latchedDesc ∧
      (completeForward s).frame.pickFeeder = s.frame.pickFeeder ∧ (completeForward s).frame.staged = s.frame.staged ∧
      (completeForward s).frame.latched = s.frame.latched ∧ (completeForward s).frame.level = s.frame.level ∧
      (completeForward s).frame.guard = s.frame.guard ∧ (completeForward s).frame.committed = s.frame.committed ∧
      (completeForward s).frame.available = s.frame.available ∧
      (completeForward s).frame.alternation = s.frame.alternation ∧
      (completeForward s).frame.output = s.frame.output ∧
      (completeForward s).frame.outputRecord = s.frame.outputRecord ∧ (completeForward s).frame.gate = s.frame.gate ∧
      (completeForward s).harness = s.harness ∧ (completeForward s).store = s.store ∧
      (completeForward s).loom = s.loom ∧ (completeForward s).design = s.design ∧
      (completeForward s).inReset = s.inReset ∧ (completeForward s).freeDraws = s.freeDraws ∧
      (completeForward s).pending = s.pending ∧ (completeForward s).wires = s.wires := by
  unfold completeForward
  split
  · split <;> simp
  · simp

/-- The start of a forward frame writes what an assembly start and a completion write (R104). -/
@[simp] theorem beginForward_keeps (p : Position) (swap : Bool) :
    (beginForward p swap s).shaft.angle = s.shaft.angle ∧ (beginForward p swap s).shaft.lines = s.shaft.lines ∧
      (beginForward p swap s).shaft.reference = s.shaft.reference ∧
      (beginForward p swap s).shaft.cause = s.shaft.cause ∧ (beginForward p swap s).shaft.motion = s.shaft.motion ∧
      (beginForward p swap s).shaft.stillTimer = s.shaft.stillTimer ∧
      (beginForward p swap s).shaft.offset = s.shaft.offset ∧ (beginForward p swap s).shaft.timing = s.shaft.timing ∧
      (beginForward p swap s).shaft.speed = s.shaft.speed ∧
      (beginForward p swap s).shaft.interval = s.shaft.interval ∧
      (beginForward p swap s).shaft.intervalRunning = s.shaft.intervalRunning ∧
      (beginForward p swap s).shaft.measuring = s.shaft.measuring ∧
      (beginForward p swap s).shaft.slack = s.shaft.slack ∧ (beginForward p swap s).shaft.margin = s.shaft.margin ∧
      (beginForward p swap s).pick.engine = s.pick.engine ∧ (beginForward p swap s).pick.position = s.pick.position ∧
      (beginForward p swap s).pick.counter = s.pick.counter ∧ (beginForward p swap s).pick.target = s.pick.target ∧
      (beginForward p swap s).pick.exchangeNote = s.pick.exchangeNote ∧
      (beginForward p swap s).pick.history = s.pick.history ∧ (beginForward p swap s).frame.owed = s.frame.owed ∧
      (beginForward p swap s).frame.latchedDesc = s.frame.latchedDesc ∧
      (beginForward p swap s).frame.pickFeeder = s.frame.pickFeeder ∧
      (beginForward p swap s).frame.latched = s.frame.latched ∧ (beginForward p swap s).frame.level = s.frame.level ∧
      (beginForward p swap s).frame.guard = s.frame.guard ∧
      (beginForward p swap s).frame.committed = s.frame.committed ∧
      (beginForward p swap s).frame.available = s.frame.available ∧
      (beginForward p swap s).frame.alternation = s.frame.alternation ∧
      (beginForward p swap s).frame.output = s.frame.output ∧
      (beginForward p swap s).frame.outputRecord = s.frame.outputRecord ∧
      (beginForward p swap s).frame.gate = s.frame.gate ∧ (beginForward p swap s).harness = s.harness ∧
      (beginForward p swap s).store.bankA = s.store.bankA ∧ (beginForward p swap s).store.bankB = s.store.bankB ∧
      (beginForward p swap s).store.queue = s.store.queue ∧
      (beginForward p swap s).store.readback = s.store.readback ∧
      (beginForward p swap s).store.memory = s.store.memory ∧ (beginForward p swap s).loom.phase = s.loom.phase ∧
      (beginForward p swap s).loom.received = s.loom.received ∧ (beginForward p swap s).loom.place = s.loom.place ∧
      (beginForward p swap s).loom.enables = s.loom.enables ∧
      (beginForward p swap s).loom.noteSlot = s.loom.noteSlot ∧
      (beginForward p swap s).loom.refusal = s.loom.refusal ∧ (beginForward p swap s).loom.reply = s.loom.reply ∧
      (beginForward p swap s).design.phase = s.design.phase ∧
      (beginForward p swap s).design.received = s.design.received ∧
      (beginForward p swap s).design.place = s.design.place ∧
      (beginForward p swap s).design.enables = s.design.enables ∧
      (beginForward p swap s).design.noteSlot = s.design.noteSlot ∧
      (beginForward p swap s).design.refusal = s.design.refusal ∧
      (beginForward p swap s).design.reply = s.design.reply ∧ (beginForward p swap s).inReset = s.inReset ∧
      (beginForward p swap s).freeDraws = s.freeDraws ∧ (beginForward p swap s).pending = s.pending ∧
      (beginForward p swap s).wires = s.wires := by
  unfold beginForward
  dsimp only
  split <;> simp

/-- A refused swap writes the ARMED bank and flags alone (R37). -/
@[simp] theorem refuseSwap_keeps (b : BankId) :
    (refuseSwap b s).shaft = s.shaft ∧ (refuseSwap b s).pick = s.pick ∧ (refuseSwap b s).frame = s.frame ∧
      (refuseSwap b s).harness = s.harness ∧ (refuseSwap b s).store.queue = s.store.queue ∧
      (refuseSwap b s).store.readback = s.store.readback ∧ (refuseSwap b s).store.port = s.store.port ∧
      (refuseSwap b s).store.memory = s.store.memory ∧ (refuseSwap b s).loom.phase = s.loom.phase ∧
      (refuseSwap b s).loom.received = s.loom.received ∧ (refuseSwap b s).loom.place = s.loom.place ∧
      (refuseSwap b s).loom.enables = s.loom.enables ∧ (refuseSwap b s).loom.noteSlot = s.loom.noteSlot ∧
      (refuseSwap b s).loom.refusal = s.loom.refusal ∧ (refuseSwap b s).loom.reply = s.loom.reply ∧
      (refuseSwap b s).design.phase = s.design.phase ∧ (refuseSwap b s).design.received = s.design.received ∧
      (refuseSwap b s).design.place = s.design.place ∧ (refuseSwap b s).design.enables = s.design.enables ∧
      (refuseSwap b s).design.noteSlot = s.design.noteSlot ∧ (refuseSwap b s).design.refusal = s.design.refusal ∧
      (refuseSwap b s).design.reply = s.design.reply ∧ (refuseSwap b s).inReset = s.inReset ∧
      (refuseSwap b s).freeDraws = s.freeDraws ∧ (refuseSwap b s).pending = s.pending ∧
      (refuseSwap b s).wires = s.wires := by
  simp [refuseSwap]

/-- Starting the next forward frame writes what an assembly start, a completion and a refused swap write (R104). -/
@[simp] theorem startForward_keeps  :
    (startForward s).shaft.angle = s.shaft.angle ∧ (startForward s).shaft.lines = s.shaft.lines ∧
      (startForward s).shaft.reference = s.shaft.reference ∧ (startForward s).shaft.cause = s.shaft.cause ∧
      (startForward s).shaft.motion = s.shaft.motion ∧ (startForward s).shaft.stillTimer = s.shaft.stillTimer ∧
      (startForward s).shaft.offset = s.shaft.offset ∧ (startForward s).shaft.timing = s.shaft.timing ∧
      (startForward s).shaft.speed = s.shaft.speed ∧ (startForward s).shaft.interval = s.shaft.interval ∧
      (startForward s).shaft.intervalRunning = s.shaft.intervalRunning ∧
      (startForward s).shaft.measuring = s.shaft.measuring ∧ (startForward s).shaft.slack = s.shaft.slack ∧
      (startForward s).shaft.margin = s.shaft.margin ∧ (startForward s).pick.engine = s.pick.engine ∧
      (startForward s).pick.position = s.pick.position ∧ (startForward s).pick.counter = s.pick.counter ∧
      (startForward s).pick.target = s.pick.target ∧ (startForward s).pick.exchangeNote = s.pick.exchangeNote ∧
      (startForward s).pick.history = s.pick.history ∧ (startForward s).frame.owed = s.frame.owed ∧
      (startForward s).frame.latchedDesc = s.frame.latchedDesc ∧
      (startForward s).frame.pickFeeder = s.frame.pickFeeder ∧ (startForward s).frame.latched = s.frame.latched ∧
      (startForward s).frame.level = s.frame.level ∧ (startForward s).frame.guard = s.frame.guard ∧
      (startForward s).frame.committed = s.frame.committed ∧ (startForward s).frame.available = s.frame.available ∧
      (startForward s).frame.alternation = s.frame.alternation ∧ (startForward s).frame.output = s.frame.output ∧
      (startForward s).frame.outputRecord = s.frame.outputRecord ∧ (startForward s).frame.gate = s.frame.gate ∧
      (startForward s).harness = s.harness ∧ (startForward s).store.queue = s.store.queue ∧
      (startForward s).store.readback = s.store.readback ∧ (startForward s).store.memory = s.store.memory ∧
      (startForward s).loom.phase = s.loom.phase ∧ (startForward s).loom.received = s.loom.received ∧
      (startForward s).loom.place = s.loom.place ∧ (startForward s).loom.enables = s.loom.enables ∧
      (startForward s).loom.noteSlot = s.loom.noteSlot ∧ (startForward s).loom.refusal = s.loom.refusal ∧
      (startForward s).loom.reply = s.loom.reply ∧ (startForward s).design.phase = s.design.phase ∧
      (startForward s).design.received = s.design.received ∧ (startForward s).design.place = s.design.place ∧
      (startForward s).design.enables = s.design.enables ∧ (startForward s).design.noteSlot = s.design.noteSlot ∧
      (startForward s).design.refusal = s.design.refusal ∧ (startForward s).design.reply = s.design.reply ∧
      (startForward s).inReset = s.inReset ∧ (startForward s).freeDraws = s.freeDraws ∧
      (startForward s).pending = s.pending ∧ (startForward s).wires = s.wires := by
  unfold startForward
  split
  · split
    · simp
    · split
      · simp
      · split <;> simp
  · simp

/-- A history record writes the history and the exchange note alone (R47, R49). -/
@[simp] theorem addRecord_keeps (kind : RecordKind) (f : Option (Fin 8)) (sub : Bool) (n : Nat) :
    (addRecord kind f sub n s).shaft = s.shaft ∧ (addRecord kind f sub n s).pick.engine = s.pick.engine ∧
      (addRecord kind f sub n s).pick.position = s.pick.position ∧
      (addRecord kind f sub n s).pick.reforming = s.pick.reforming ∧
      (addRecord kind f sub n s).pick.counter = s.pick.counter ∧
      (addRecord kind f sub n s).pick.target = s.pick.target ∧ (addRecord kind f sub n s).pick.fault = s.pick.fault ∧
      (addRecord kind f sub n s).pick.stopRequest = s.pick.stopRequest ∧ (addRecord kind f sub n s).frame = s.frame ∧
      (addRecord kind f sub n s).harness = s.harness ∧ (addRecord kind f sub n s).store = s.store ∧
      (addRecord kind f sub n s).loom = s.loom ∧ (addRecord kind f sub n s).design = s.design ∧
      (addRecord kind f sub n s).inReset = s.inReset ∧ (addRecord kind f sub n s).freeDraws = s.freeDraws ∧
      (addRecord kind f sub n s).pending = s.pending ∧ (addRecord kind f sub n s).wires = s.wires := by
  unfold addRecord
  split <;> simp

/-- The latch of a re-form leaves the position, the counter, the banks and the alternation (R30, R115). -/
@[simp] theorem takeReform_keeps (d : Descriptor) (c : Cause) :
    (takeReform d c s).shaft = s.shaft ∧ (takeReform d c s).pick.engine = s.pick.engine ∧
      (takeReform d c s).pick.position = s.pick.position ∧ (takeReform d c s).pick.counter = s.pick.counter ∧
      (takeReform d c s).pick.target = s.pick.target ∧ (takeReform d c s).frame.owed = s.frame.owed ∧
      (takeReform d c s).frame.level = s.frame.level ∧ (takeReform d c s).frame.guard = s.frame.guard ∧
      (takeReform d c s).frame.available = s.frame.available ∧
      (takeReform d c s).frame.alternation = s.frame.alternation ∧ (takeReform d c s).frame.gate = s.frame.gate ∧
      (takeReform d c s).harness.live = s.harness.live ∧ (takeReform d c s).harness.claim = s.harness.claim ∧
      (takeReform d c s).harness.keep = s.harness.keep ∧ (takeReform d c s).harness.fixed = s.harness.fixed ∧
      (takeReform d c s).harness.ra = s.harness.ra ∧ (takeReform d c s).harness.rb = s.harness.rb ∧
      (takeReform d c s).harness.drive = s.harness.drive ∧ (takeReform d c s).store = s.store ∧
      (takeReform d c s).loom.phase = s.loom.phase ∧ (takeReform d c s).loom.received = s.loom.received ∧
      (takeReform d c s).loom.place = s.loom.place ∧ (takeReform d c s).loom.enables = s.loom.enables ∧
      (takeReform d c s).loom.noteSlot = s.loom.noteSlot ∧ (takeReform d c s).loom.refusal = s.loom.refusal ∧
      (takeReform d c s).loom.reply = s.loom.reply ∧ (takeReform d c s).design.phase = s.design.phase ∧
      (takeReform d c s).design.received = s.design.received ∧ (takeReform d c s).design.place = s.design.place ∧
      (takeReform d c s).design.enables = s.design.enables ∧ (takeReform d c s).design.noteSlot = s.design.noteSlot ∧
      (takeReform d c s).design.refusal = s.design.refusal ∧ (takeReform d c s).design.reply = s.design.reply ∧
      (takeReform d c s).inReset = s.inReset ∧ (takeReform d c s).freeDraws = s.freeDraws ∧
      (takeReform d c s).pending = s.pending ∧ (takeReform d c s).wires = s.wires := by
  unfold takeReform
  simp

/-- The completion of a re-form writes what its latch and the next forward frame write (R105, R115). -/
@[simp] theorem completeReform_keeps  :
    (completeReform s).shaft.angle = s.shaft.angle ∧ (completeReform s).shaft.lines = s.shaft.lines ∧
      (completeReform s).shaft.reference = s.shaft.reference ∧ (completeReform s).shaft.cause = s.shaft.cause ∧
      (completeReform s).shaft.motion = s.shaft.motion ∧ (completeReform s).shaft.stillTimer = s.shaft.stillTimer ∧
      (completeReform s).shaft.offset = s.shaft.offset ∧ (completeReform s).shaft.timing = s.shaft.timing ∧
      (completeReform s).shaft.speed = s.shaft.speed ∧ (completeReform s).shaft.interval = s.shaft.interval ∧
      (completeReform s).shaft.intervalRunning = s.shaft.intervalRunning ∧
      (completeReform s).shaft.measuring = s.shaft.measuring ∧ (completeReform s).shaft.slack = s.shaft.slack ∧
      (completeReform s).shaft.margin = s.shaft.margin ∧ (completeReform s).pick.engine = s.pick.engine ∧
      (completeReform s).pick.position = s.pick.position ∧ (completeReform s).pick.counter = s.pick.counter ∧
      (completeReform s).pick.target = s.pick.target ∧ (completeReform s).frame.owed = s.frame.owed ∧
      (completeReform s).frame.level = s.frame.level ∧ (completeReform s).frame.guard = s.frame.guard ∧
      (completeReform s).frame.available = s.frame.available ∧
      (completeReform s).frame.alternation = s.frame.alternation ∧ (completeReform s).frame.gate = s.frame.gate ∧
      (completeReform s).harness.live = s.harness.live ∧ (completeReform s).harness.claim = s.harness.claim ∧
      (completeReform s).harness.keep = s.harness.keep ∧ (completeReform s).harness.fixed = s.harness.fixed ∧
      (completeReform s).harness.ra = s.harness.ra ∧ (completeReform s).harness.rb = s.harness.rb ∧
      (completeReform s).harness.drive = s.harness.drive ∧ (completeReform s).store.queue = s.store.queue ∧
      (completeReform s).store.readback = s.store.readback ∧ (completeReform s).store.memory = s.store.memory ∧
      (completeReform s).loom.phase = s.loom.phase ∧ (completeReform s).loom.received = s.loom.received ∧
      (completeReform s).loom.place = s.loom.place ∧ (completeReform s).loom.enables = s.loom.enables ∧
      (completeReform s).loom.noteSlot = s.loom.noteSlot ∧ (completeReform s).loom.refusal = s.loom.refusal ∧
      (completeReform s).loom.reply = s.loom.reply ∧ (completeReform s).design.phase = s.design.phase ∧
      (completeReform s).design.received = s.design.received ∧ (completeReform s).design.place = s.design.place ∧
      (completeReform s).design.enables = s.design.enables ∧ (completeReform s).design.noteSlot = s.design.noteSlot ∧
      (completeReform s).design.refusal = s.design.refusal ∧ (completeReform s).design.reply = s.design.reply ∧
      (completeReform s).inReset = s.inReset ∧ (completeReform s).freeDraws = s.freeDraws ∧
      (completeReform s).pending = s.pending ∧ (completeReform s).wires = s.wires := by
  unfold completeReform
  split
  · split <;> simp
  · simp

/-- Starting a re-form leaves the position, the counter and the settings (R106). -/
@[simp] theorem beginReform_keeps (c : Cause) :
    (beginReform c s).shaft.angle = s.shaft.angle ∧ (beginReform c s).shaft.lines = s.shaft.lines ∧
      (beginReform c s).shaft.reference = s.shaft.reference ∧ (beginReform c s).shaft.cause = s.shaft.cause ∧
      (beginReform c s).shaft.motion = s.shaft.motion ∧ (beginReform c s).shaft.stillTimer = s.shaft.stillTimer ∧
      (beginReform c s).shaft.offset = s.shaft.offset ∧ (beginReform c s).shaft.timing = s.shaft.timing ∧
      (beginReform c s).shaft.speed = s.shaft.speed ∧ (beginReform c s).shaft.interval = s.shaft.interval ∧
      (beginReform c s).shaft.intervalRunning = s.shaft.intervalRunning ∧
      (beginReform c s).shaft.measuring = s.shaft.measuring ∧ (beginReform c s).shaft.slack = s.shaft.slack ∧
      (beginReform c s).shaft.margin = s.shaft.margin ∧ (beginReform c s).pick.engine = s.pick.engine ∧
      (beginReform c s).pick.position = s.pick.position ∧ (beginReform c s).pick.counter = s.pick.counter ∧
      (beginReform c s).pick.target = s.pick.target ∧ (beginReform c s).frame.owed = s.frame.owed ∧
      (beginReform c s).frame.level = s.frame.level ∧ (beginReform c s).frame.guard = s.frame.guard ∧
      (beginReform c s).frame.available = s.frame.available ∧
      (beginReform c s).frame.alternation = s.frame.alternation ∧ (beginReform c s).frame.gate = s.frame.gate ∧
      (beginReform c s).harness.live = s.harness.live ∧ (beginReform c s).harness.claim = s.harness.claim ∧
      (beginReform c s).harness.keep = s.harness.keep ∧ (beginReform c s).harness.fixed = s.harness.fixed ∧
      (beginReform c s).harness.ra = s.harness.ra ∧ (beginReform c s).harness.rb = s.harness.rb ∧
      (beginReform c s).harness.drive = s.harness.drive ∧ (beginReform c s).store.queue = s.store.queue ∧
      (beginReform c s).store.readback = s.store.readback ∧ (beginReform c s).store.memory = s.store.memory ∧
      (beginReform c s).loom.phase = s.loom.phase ∧ (beginReform c s).loom.received = s.loom.received ∧
      (beginReform c s).loom.place = s.loom.place ∧ (beginReform c s).loom.enables = s.loom.enables ∧
      (beginReform c s).loom.noteSlot = s.loom.noteSlot ∧ (beginReform c s).loom.refusal = s.loom.refusal ∧
      (beginReform c s).loom.reply = s.loom.reply ∧ (beginReform c s).design.phase = s.design.phase ∧
      (beginReform c s).design.received = s.design.received ∧ (beginReform c s).design.place = s.design.place ∧
      (beginReform c s).design.enables = s.design.enables ∧ (beginReform c s).design.noteSlot = s.design.noteSlot ∧
      (beginReform c s).design.refusal = s.design.refusal ∧ (beginReform c s).design.reply = s.design.reply ∧
      (beginReform c s).inReset = s.inReset ∧ (beginReform c s).freeDraws = s.freeDraws ∧
      (beginReform c s).pending = s.pending ∧ (beginReform c s).wires = s.wires := by
  unfold beginReform
  split
  · simp
  · dsimp only
    split <;> simp

/-- A re-form started or owed leaves the position, the counter and the settings (R106, R107). -/
@[simp] theorem startReform_keeps (c : Cause) :
    (startReform c s).shaft.angle = s.shaft.angle ∧ (startReform c s).shaft.lines = s.shaft.lines ∧
      (startReform c s).shaft.reference = s.shaft.reference ∧ (startReform c s).shaft.cause = s.shaft.cause ∧
      (startReform c s).shaft.motion = s.shaft.motion ∧ (startReform c s).shaft.stillTimer = s.shaft.stillTimer ∧
      (startReform c s).shaft.offset = s.shaft.offset ∧ (startReform c s).shaft.timing = s.shaft.timing ∧
      (startReform c s).shaft.speed = s.shaft.speed ∧ (startReform c s).shaft.interval = s.shaft.interval ∧
      (startReform c s).shaft.intervalRunning = s.shaft.intervalRunning ∧
      (startReform c s).shaft.measuring = s.shaft.measuring ∧ (startReform c s).shaft.slack = s.shaft.slack ∧
      (startReform c s).shaft.margin = s.shaft.margin ∧ (startReform c s).pick.engine = s.pick.engine ∧
      (startReform c s).pick.position = s.pick.position ∧ (startReform c s).pick.counter = s.pick.counter ∧
      (startReform c s).pick.target = s.pick.target ∧ (startReform c s).frame.level = s.frame.level ∧
      (startReform c s).frame.guard = s.frame.guard ∧ (startReform c s).frame.available = s.frame.available ∧
      (startReform c s).frame.alternation = s.frame.alternation ∧ (startReform c s).frame.gate = s.frame.gate ∧
      (startReform c s).harness.live = s.harness.live ∧ (startReform c s).harness.claim = s.harness.claim ∧
      (startReform c s).harness.keep = s.harness.keep ∧ (startReform c s).harness.fixed = s.harness.fixed ∧
      (startReform c s).harness.ra = s.harness.ra ∧ (startReform c s).harness.rb = s.harness.rb ∧
      (startReform c s).harness.drive = s.harness.drive ∧ (startReform c s).store.queue = s.store.queue ∧
      (startReform c s).store.readback = s.store.readback ∧ (startReform c s).store.memory = s.store.memory ∧
      (startReform c s).loom.phase = s.loom.phase ∧ (startReform c s).loom.received = s.loom.received ∧
      (startReform c s).loom.place = s.loom.place ∧ (startReform c s).loom.enables = s.loom.enables ∧
      (startReform c s).loom.noteSlot = s.loom.noteSlot ∧ (startReform c s).loom.refusal = s.loom.refusal ∧
      (startReform c s).loom.reply = s.loom.reply ∧ (startReform c s).design.phase = s.design.phase ∧
      (startReform c s).design.received = s.design.received ∧ (startReform c s).design.place = s.design.place ∧
      (startReform c s).design.enables = s.design.enables ∧ (startReform c s).design.noteSlot = s.design.noteSlot ∧
      (startReform c s).design.refusal = s.design.refusal ∧ (startReform c s).design.reply = s.design.reply ∧
      (startReform c s).inReset = s.inReset ∧ (startReform c s).freeDraws = s.freeDraws ∧
      (startReform c s).pending = s.pending ∧ (startReform c s).wires = s.wires := by
  unfold startReform
  split <;> simp

/-- An owed re-form started leaves the position, the counter and the settings (R107). -/
@[simp] theorem startOwed_keeps  :
    (startOwed s).shaft.angle = s.shaft.angle ∧ (startOwed s).shaft.lines = s.shaft.lines ∧
      (startOwed s).shaft.reference = s.shaft.reference ∧ (startOwed s).shaft.cause = s.shaft.cause ∧
      (startOwed s).shaft.motion = s.shaft.motion ∧ (startOwed s).shaft.stillTimer = s.shaft.stillTimer ∧
      (startOwed s).shaft.offset = s.shaft.offset ∧ (startOwed s).shaft.timing = s.shaft.timing ∧
      (startOwed s).shaft.speed = s.shaft.speed ∧ (startOwed s).shaft.interval = s.shaft.interval ∧
      (startOwed s).shaft.intervalRunning = s.shaft.intervalRunning ∧
      (startOwed s).shaft.measuring = s.shaft.measuring ∧ (startOwed s).shaft.slack = s.shaft.slack ∧
      (startOwed s).shaft.margin = s.shaft.margin ∧ (startOwed s).pick.engine = s.pick.engine ∧
      (startOwed s).pick.position = s.pick.position ∧ (startOwed s).pick.counter = s.pick.counter ∧
      (startOwed s).pick.target = s.pick.target ∧ (startOwed s).frame.level = s.frame.level ∧
      (startOwed s).frame.guard = s.frame.guard ∧ (startOwed s).frame.available = s.frame.available ∧
      (startOwed s).frame.alternation = s.frame.alternation ∧ (startOwed s).frame.gate = s.frame.gate ∧
      (startOwed s).harness.live = s.harness.live ∧ (startOwed s).harness.claim = s.harness.claim ∧
      (startOwed s).harness.keep = s.harness.keep ∧ (startOwed s).harness.fixed = s.harness.fixed ∧
      (startOwed s).harness.ra = s.harness.ra ∧ (startOwed s).harness.rb = s.harness.rb ∧
      (startOwed s).harness.drive = s.harness.drive ∧ (startOwed s).store.queue = s.store.queue ∧
      (startOwed s).store.readback = s.store.readback ∧ (startOwed s).store.memory = s.store.memory ∧
      (startOwed s).loom.phase = s.loom.phase ∧ (startOwed s).loom.received = s.loom.received ∧
      (startOwed s).loom.place = s.loom.place ∧ (startOwed s).loom.enables = s.loom.enables ∧
      (startOwed s).loom.noteSlot = s.loom.noteSlot ∧ (startOwed s).loom.refusal = s.loom.refusal ∧
      (startOwed s).loom.reply = s.loom.reply ∧ (startOwed s).design.phase = s.design.phase ∧
      (startOwed s).design.received = s.design.received ∧ (startOwed s).design.place = s.design.place ∧
      (startOwed s).design.enables = s.design.enables ∧ (startOwed s).design.noteSlot = s.design.noteSlot ∧
      (startOwed s).design.refusal = s.design.refusal ∧ (startOwed s).design.reply = s.design.reply ∧
      (startOwed s).inReset = s.inReset ∧ (startOwed s).freeDraws = s.freeDraws ∧ (startOwed s).pending = s.pending ∧
      (startOwed s).wires = s.wires := by
  unfold startOwed
  split <;> simp

/-- A frame burst's data leaves the position, the counter and pattern memory (R110). -/
@[simp] theorem takeFrameData_keeps (data : List Byte) :
    (takeFrameData data s).shaft.angle = s.shaft.angle ∧ (takeFrameData data s).shaft.lines = s.shaft.lines ∧
      (takeFrameData data s).shaft.reference = s.shaft.reference ∧
      (takeFrameData data s).shaft.cause = s.shaft.cause ∧ (takeFrameData data s).shaft.motion = s.shaft.motion ∧
      (takeFrameData data s).shaft.stillTimer = s.shaft.stillTimer ∧
      (takeFrameData data s).shaft.offset = s.shaft.offset ∧ (takeFrameData data s).shaft.timing = s.shaft.timing ∧
      (takeFrameData data s).shaft.speed = s.shaft.speed ∧ (takeFrameData data s).shaft.interval = s.shaft.interval ∧
      (takeFrameData data s).shaft.intervalRunning = s.shaft.intervalRunning ∧
      (takeFrameData data s).shaft.measuring = s.shaft.measuring ∧
      (takeFrameData data s).shaft.slack = s.shaft.slack ∧ (takeFrameData data s).shaft.margin = s.shaft.margin ∧
      (takeFrameData data s).pick.engine = s.pick.engine ∧ (takeFrameData data s).pick.position = s.pick.position ∧
      (takeFrameData data s).pick.counter = s.pick.counter ∧ (takeFrameData data s).pick.target = s.pick.target ∧
      (takeFrameData data s).frame.owed = s.frame.owed ∧ (takeFrameData data s).frame.level = s.frame.level ∧
      (takeFrameData data s).frame.guard = s.frame.guard ∧
      (takeFrameData data s).frame.available = s.frame.available ∧
      (takeFrameData data s).frame.alternation = s.frame.alternation ∧
      (takeFrameData data s).frame.gate = s.frame.gate ∧ (takeFrameData data s).harness.live = s.harness.live ∧
      (takeFrameData data s).harness.claim = s.harness.claim ∧ (takeFrameData data s).harness.keep = s.harness.keep ∧
      (takeFrameData data s).harness.fixed = s.harness.fixed ∧ (takeFrameData data s).harness.ra = s.harness.ra ∧
      (takeFrameData data s).harness.rb = s.harness.rb ∧ (takeFrameData data s).harness.drive = s.harness.drive ∧
      (takeFrameData data s).store.queue = s.store.queue ∧ (takeFrameData data s).store.readback = s.store.readback ∧
      (takeFrameData data s).store.memory = s.store.memory ∧ (takeFrameData data s).loom.phase = s.loom.phase ∧
      (takeFrameData data s).loom.received = s.loom.received ∧ (takeFrameData data s).loom.place = s.loom.place ∧
      (takeFrameData data s).loom.enables = s.loom.enables ∧ (takeFrameData data s).loom.noteSlot = s.loom.noteSlot ∧
      (takeFrameData data s).loom.refusal = s.loom.refusal ∧ (takeFrameData data s).loom.reply = s.loom.reply ∧
      (takeFrameData data s).design.phase = s.design.phase ∧
      (takeFrameData data s).design.received = s.design.received ∧
      (takeFrameData data s).design.place = s.design.place ∧
      (takeFrameData data s).design.enables = s.design.enables ∧
      (takeFrameData data s).design.noteSlot = s.design.noteSlot ∧
      (takeFrameData data s).design.refusal = s.design.refusal ∧
      (takeFrameData data s).design.reply = s.design.reply ∧ (takeFrameData data s).inReset = s.inReset ∧
      (takeFrameData data s).freeDraws = s.freeDraws ∧ (takeFrameData data s).pending = s.pending ∧
      (takeFrameData data s).wires = s.wires := by
  unfold takeFrameData
  split
  · dsimp only
    split
    · simp
    · split <;> simp
  · simp

/-! ## The pick engine -/

/-- A plain wrap writes the position and flags alone (R28). -/
@[simp] theorem plainWrap_keeps (p : Position) :
    (plainWrap p s).shaft = s.shaft ∧ (plainWrap p s).pick.engine = s.pick.engine ∧
      (plainWrap p s).pick.reforming = s.pick.reforming ∧ (plainWrap p s).pick.counter = s.pick.counter ∧
      (plainWrap p s).pick.target = s.pick.target ∧ (plainWrap p s).pick.exchangeNote = s.pick.exchangeNote ∧
      (plainWrap p s).pick.history = s.pick.history ∧ (plainWrap p s).pick.fault = s.pick.fault ∧
      (plainWrap p s).pick.stopRequest = s.pick.stopRequest ∧ (plainWrap p s).frame = s.frame ∧
      (plainWrap p s).harness = s.harness ∧ (plainWrap p s).store = s.store ∧
      (plainWrap p s).loom.phase = s.loom.phase ∧ (plainWrap p s).loom.received = s.loom.received ∧
      (plainWrap p s).loom.place = s.loom.place ∧ (plainWrap p s).loom.enables = s.loom.enables ∧
      (plainWrap p s).loom.noteSlot = s.loom.noteSlot ∧ (plainWrap p s).loom.refusal = s.loom.refusal ∧
      (plainWrap p s).loom.reply = s.loom.reply ∧ (plainWrap p s).design.phase = s.design.phase ∧
      (plainWrap p s).design.received = s.design.received ∧ (plainWrap p s).design.place = s.design.place ∧
      (plainWrap p s).design.enables = s.design.enables ∧ (plainWrap p s).design.noteSlot = s.design.noteSlot ∧
      (plainWrap p s).design.refusal = s.design.refusal ∧ (plainWrap p s).design.reply = s.design.reply ∧
      (plainWrap p s).inReset = s.inReset ∧ (plainWrap p s).freeDraws = s.freeDraws ∧
      (plainWrap p s).pending = s.pending ∧ (plainWrap p s).wires = s.wires := by
  simp [plainWrap]

/-- A swap writes the banks, the position, the exchange note, the alternation and float states and flags alone (R36). -/
@[simp] theorem commitSwap_keeps (p : Position) :
    (commitSwap p s).shaft = s.shaft ∧ (commitSwap p s).pick.engine = s.pick.engine ∧
      (commitSwap p s).pick.reforming = s.pick.reforming ∧ (commitSwap p s).pick.counter = s.pick.counter ∧
      (commitSwap p s).pick.target = s.pick.target ∧ (commitSwap p s).pick.history = s.pick.history ∧
      (commitSwap p s).pick.fault = s.pick.fault ∧ (commitSwap p s).pick.stopRequest = s.pick.stopRequest ∧
      (commitSwap p s).frame.slot = s.frame.slot ∧ (commitSwap p s).frame.owed = s.frame.owed ∧
      (commitSwap p s).frame.latchedDesc = s.frame.latchedDesc ∧
      (commitSwap p s).frame.pickFeeder = s.frame.pickFeeder ∧ (commitSwap p s).frame.staged = s.frame.staged ∧
      (commitSwap p s).frame.latched = s.frame.latched ∧ (commitSwap p s).frame.level = s.frame.level ∧
      (commitSwap p s).frame.guard = s.frame.guard ∧ (commitSwap p s).frame.available = s.frame.available ∧
      (commitSwap p s).frame.output = s.frame.output ∧ (commitSwap p s).frame.outputRecord = s.frame.outputRecord ∧
      (commitSwap p s).frame.gate = s.frame.gate ∧ (commitSwap p s).harness = s.harness ∧
      (commitSwap p s).store.queue = s.store.queue ∧ (commitSwap p s).store.readback = s.store.readback ∧
      (commitSwap p s).store.port = s.store.port ∧ (commitSwap p s).store.memory = s.store.memory ∧
      (commitSwap p s).loom.phase = s.loom.phase ∧ (commitSwap p s).loom.received = s.loom.received ∧
      (commitSwap p s).loom.place = s.loom.place ∧ (commitSwap p s).loom.enables = s.loom.enables ∧
      (commitSwap p s).loom.noteSlot = s.loom.noteSlot ∧ (commitSwap p s).loom.refusal = s.loom.refusal ∧
      (commitSwap p s).loom.reply = s.loom.reply ∧ (commitSwap p s).design.phase = s.design.phase ∧
      (commitSwap p s).design.received = s.design.received ∧ (commitSwap p s).design.place = s.design.place ∧
      (commitSwap p s).design.enables = s.design.enables ∧ (commitSwap p s).design.noteSlot = s.design.noteSlot ∧
      (commitSwap p s).design.refusal = s.design.refusal ∧ (commitSwap p s).design.reply = s.design.reply ∧
      (commitSwap p s).inReset = s.inReset ∧ (commitSwap p s).freeDraws = s.freeDraws ∧
      (commitSwap p s).pending = s.pending ∧ (commitSwap p s).wires = s.wires := by
  simp [commitSwap]

/-- An undo writes what a swap writes (R40). -/
@[simp] theorem undoSwap_keeps (p : Position) :
    (undoSwap p s).shaft = s.shaft ∧ (undoSwap p s).pick.engine = s.pick.engine ∧
      (undoSwap p s).pick.reforming = s.pick.reforming ∧ (undoSwap p s).pick.counter = s.pick.counter ∧
      (undoSwap p s).pick.target = s.pick.target ∧ (undoSwap p s).pick.history = s.pick.history ∧
      (undoSwap p s).pick.fault = s.pick.fault ∧ (undoSwap p s).pick.stopRequest = s.pick.stopRequest ∧
      (undoSwap p s).frame.slot = s.frame.slot ∧ (undoSwap p s).frame.owed = s.frame.owed ∧
      (undoSwap p s).frame.latchedDesc = s.frame.latchedDesc ∧ (undoSwap p s).frame.pickFeeder = s.frame.pickFeeder ∧
      (undoSwap p s).frame.staged = s.frame.staged ∧ (undoSwap p s).frame.latched = s.frame.latched ∧
      (undoSwap p s).frame.level = s.frame.level ∧ (undoSwap p s).frame.guard = s.frame.guard ∧
      (undoSwap p s).frame.available = s.frame.available ∧ (undoSwap p s).frame.output = s.frame.output ∧
      (undoSwap p s).frame.outputRecord = s.frame.outputRecord ∧ (undoSwap p s).frame.gate = s.frame.gate ∧
      (undoSwap p s).harness = s.harness ∧ (undoSwap p s).store.queue = s.store.queue ∧
      (undoSwap p s).store.readback = s.store.readback ∧ (undoSwap p s).store.port = s.store.port ∧
      (undoSwap p s).store.memory = s.store.memory ∧ (undoSwap p s).loom.phase = s.loom.phase ∧
      (undoSwap p s).loom.received = s.loom.received ∧ (undoSwap p s).loom.place = s.loom.place ∧
      (undoSwap p s).loom.enables = s.loom.enables ∧ (undoSwap p s).loom.noteSlot = s.loom.noteSlot ∧
      (undoSwap p s).loom.refusal = s.loom.refusal ∧ (undoSwap p s).loom.reply = s.loom.reply ∧
      (undoSwap p s).design.phase = s.design.phase ∧ (undoSwap p s).design.received = s.design.received ∧
      (undoSwap p s).design.place = s.design.place ∧ (undoSwap p s).design.enables = s.design.enables ∧
      (undoSwap p s).design.noteSlot = s.design.noteSlot ∧ (undoSwap p s).design.refusal = s.design.refusal ∧
      (undoSwap p s).design.reply = s.design.reply ∧ (undoSwap p s).inReset = s.inReset ∧
      (undoSwap p s).freeDraws = s.freeDraws ∧ (undoSwap p s).pending = s.pending ∧
      (undoSwap p s).wires = s.wires := by
  simp [undoSwap]

/-- A wrap decided now writes what a swap writes (R35–R37). -/
@[simp] theorem wrapNow_keeps (p : Position) :
    (wrapNow p s).shaft = s.shaft ∧ (wrapNow p s).pick.engine = s.pick.engine ∧
      (wrapNow p s).pick.reforming = s.pick.reforming ∧ (wrapNow p s).pick.counter = s.pick.counter ∧
      (wrapNow p s).pick.target = s.pick.target ∧ (wrapNow p s).pick.history = s.pick.history ∧
      (wrapNow p s).pick.fault = s.pick.fault ∧ (wrapNow p s).pick.stopRequest = s.pick.stopRequest ∧
      (wrapNow p s).frame.slot = s.frame.slot ∧ (wrapNow p s).frame.owed = s.frame.owed ∧
      (wrapNow p s).frame.latchedDesc = s.frame.latchedDesc ∧ (wrapNow p s).frame.pickFeeder = s.frame.pickFeeder ∧
      (wrapNow p s).frame.staged = s.frame.staged ∧ (wrapNow p s).frame.latched = s.frame.latched ∧
      (wrapNow p s).frame.level = s.frame.level ∧ (wrapNow p s).frame.guard = s.frame.guard ∧
      (wrapNow p s).frame.available = s.frame.available ∧ (wrapNow p s).frame.output = s.frame.output ∧
      (wrapNow p s).frame.outputRecord = s.frame.outputRecord ∧ (wrapNow p s).frame.gate = s.frame.gate ∧
      (wrapNow p s).harness = s.harness ∧ (wrapNow p s).store.queue = s.store.queue ∧
      (wrapNow p s).store.readback = s.store.readback ∧ (wrapNow p s).store.port = s.store.port ∧
      (wrapNow p s).store.memory = s.store.memory ∧ (wrapNow p s).loom.phase = s.loom.phase ∧
      (wrapNow p s).loom.received = s.loom.received ∧ (wrapNow p s).loom.place = s.loom.place ∧
      (wrapNow p s).loom.enables = s.loom.enables ∧ (wrapNow p s).loom.noteSlot = s.loom.noteSlot ∧
      (wrapNow p s).loom.refusal = s.loom.refusal ∧ (wrapNow p s).loom.reply = s.loom.reply ∧
      (wrapNow p s).design.phase = s.design.phase ∧ (wrapNow p s).design.received = s.design.received ∧
      (wrapNow p s).design.place = s.design.place ∧ (wrapNow p s).design.enables = s.design.enables ∧
      (wrapNow p s).design.noteSlot = s.design.noteSlot ∧ (wrapNow p s).design.refusal = s.design.refusal ∧
      (wrapNow p s).design.reply = s.design.reply ∧ (wrapNow p s).inReset = s.inReset ∧
      (wrapNow p s).freeDraws = s.freeDraws ∧ (wrapNow p s).pending = s.pending ∧ (wrapNow p s).wires = s.wires := by
  unfold wrapNow
  split <;> simp

/-- A forward move writes what a swap writes (R24). -/
@[simp] theorem forwardMove_keeps (d : Option Bool) :
    (forwardMove d s).shaft = s.shaft ∧ (forwardMove d s).pick.engine = s.pick.engine ∧
      (forwardMove d s).pick.reforming = s.pick.reforming ∧ (forwardMove d s).pick.counter = s.pick.counter ∧
      (forwardMove d s).pick.target = s.pick.target ∧ (forwardMove d s).pick.history = s.pick.history ∧
      (forwardMove d s).pick.fault = s.pick.fault ∧ (forwardMove d s).pick.stopRequest = s.pick.stopRequest ∧
      (forwardMove d s).frame.slot = s.frame.slot ∧ (forwardMove d s).frame.owed = s.frame.owed ∧
      (forwardMove d s).frame.latchedDesc = s.frame.latchedDesc ∧
      (forwardMove d s).frame.pickFeeder = s.frame.pickFeeder ∧ (forwardMove d s).frame.staged = s.frame.staged ∧
      (forwardMove d s).frame.latched = s.frame.latched ∧ (forwardMove d s).frame.level = s.frame.level ∧
      (forwardMove d s).frame.guard = s.frame.guard ∧ (forwardMove d s).frame.available = s.frame.available ∧
      (forwardMove d s).frame.output = s.frame.output ∧ (forwardMove d s).frame.outputRecord = s.frame.outputRecord ∧
      (forwardMove d s).frame.gate = s.frame.gate ∧ (forwardMove d s).harness = s.harness ∧
      (forwardMove d s).store.queue = s.store.queue ∧ (forwardMove d s).store.readback = s.store.readback ∧
      (forwardMove d s).store.port = s.store.port ∧ (forwardMove d s).store.memory = s.store.memory ∧
      (forwardMove d s).loom.phase = s.loom.phase ∧ (forwardMove d s).loom.received = s.loom.received ∧
      (forwardMove d s).loom.place = s.loom.place ∧ (forwardMove d s).loom.enables = s.loom.enables ∧
      (forwardMove d s).loom.noteSlot = s.loom.noteSlot ∧ (forwardMove d s).loom.refusal = s.loom.refusal ∧
      (forwardMove d s).loom.reply = s.loom.reply ∧ (forwardMove d s).design.phase = s.design.phase ∧
      (forwardMove d s).design.received = s.design.received ∧ (forwardMove d s).design.place = s.design.place ∧
      (forwardMove d s).design.enables = s.design.enables ∧ (forwardMove d s).design.noteSlot = s.design.noteSlot ∧
      (forwardMove d s).design.refusal = s.design.refusal ∧ (forwardMove d s).design.reply = s.design.reply ∧
      (forwardMove d s).inReset = s.inReset ∧ (forwardMove d s).freeDraws = s.freeDraws ∧
      (forwardMove d s).pending = s.pending ∧ (forwardMove d s).wires = s.wires := by
  unfold forwardMove
  split
  · simp
  · split
    · simp
    · split <;> simp

/-- A backward move writes what an undo writes (R25). -/
@[simp] theorem backwardMove_keeps  :
    (backwardMove s).shaft = s.shaft ∧ (backwardMove s).pick.engine = s.pick.engine ∧
      (backwardMove s).pick.reforming = s.pick.reforming ∧ (backwardMove s).pick.counter = s.pick.counter ∧
      (backwardMove s).pick.target = s.pick.target ∧ (backwardMove s).pick.history = s.pick.history ∧
      (backwardMove s).pick.fault = s.pick.fault ∧ (backwardMove s).pick.stopRequest = s.pick.stopRequest ∧
      (backwardMove s).frame.slot = s.frame.slot ∧ (backwardMove s).frame.owed = s.frame.owed ∧
      (backwardMove s).frame.latchedDesc = s.frame.latchedDesc ∧
      (backwardMove s).frame.pickFeeder = s.frame.pickFeeder ∧ (backwardMove s).frame.staged = s.frame.staged ∧
      (backwardMove s).frame.latched = s.frame.latched ∧ (backwardMove s).frame.level = s.frame.level ∧
      (backwardMove s).frame.guard = s.frame.guard ∧ (backwardMove s).frame.available = s.frame.available ∧
      (backwardMove s).frame.output = s.frame.output ∧ (backwardMove s).frame.outputRecord = s.frame.outputRecord ∧
      (backwardMove s).frame.gate = s.frame.gate ∧ (backwardMove s).harness = s.harness ∧
      (backwardMove s).store.queue = s.store.queue ∧ (backwardMove s).store.readback = s.store.readback ∧
      (backwardMove s).store.port = s.store.port ∧ (backwardMove s).store.memory = s.store.memory ∧
      (backwardMove s).loom.phase = s.loom.phase ∧ (backwardMove s).loom.received = s.loom.received ∧
      (backwardMove s).loom.place = s.loom.place ∧ (backwardMove s).loom.enables = s.loom.enables ∧
      (backwardMove s).loom.noteSlot = s.loom.noteSlot ∧ (backwardMove s).loom.refusal = s.loom.refusal ∧
      (backwardMove s).loom.reply = s.loom.reply ∧ (backwardMove s).design.phase = s.design.phase ∧
      (backwardMove s).design.received = s.design.received ∧ (backwardMove s).design.place = s.design.place ∧
      (backwardMove s).design.enables = s.design.enables ∧ (backwardMove s).design.noteSlot = s.design.noteSlot ∧
      (backwardMove s).design.refusal = s.design.refusal ∧ (backwardMove s).design.reply = s.design.reply ∧
      (backwardMove s).inReset = s.inReset ∧ (backwardMove s).freeDraws = s.freeDraws ∧
      (backwardMove s).pending = s.pending ∧ (backwardMove s).wires = s.wires := by
  unfold backwardMove
  split
  · simp
  · split
    · simp
    · split
      · split <;> simp
      · simp

/-- Forward moves write what a swap writes (R43). -/
@[simp] theorem forwardMoves_keeps (n : Nat) :
    (forwardMoves n s).shaft = s.shaft ∧ (forwardMoves n s).pick.engine = s.pick.engine ∧
      (forwardMoves n s).pick.reforming = s.pick.reforming ∧ (forwardMoves n s).pick.counter = s.pick.counter ∧
      (forwardMoves n s).pick.target = s.pick.target ∧ (forwardMoves n s).pick.history = s.pick.history ∧
      (forwardMoves n s).pick.fault = s.pick.fault ∧ (forwardMoves n s).pick.stopRequest = s.pick.stopRequest ∧
      (forwardMoves n s).frame.slot = s.frame.slot ∧ (forwardMoves n s).frame.owed = s.frame.owed ∧
      (forwardMoves n s).frame.latchedDesc = s.frame.latchedDesc ∧
      (forwardMoves n s).frame.pickFeeder = s.frame.pickFeeder ∧ (forwardMoves n s).frame.staged = s.frame.staged ∧
      (forwardMoves n s).frame.latched = s.frame.latched ∧ (forwardMoves n s).frame.level = s.frame.level ∧
      (forwardMoves n s).frame.guard = s.frame.guard ∧ (forwardMoves n s).frame.available = s.frame.available ∧
      (forwardMoves n s).frame.output = s.frame.output ∧
      (forwardMoves n s).frame.outputRecord = s.frame.outputRecord ∧ (forwardMoves n s).frame.gate = s.frame.gate ∧
      (forwardMoves n s).harness = s.harness ∧ (forwardMoves n s).store.queue = s.store.queue ∧
      (forwardMoves n s).store.readback = s.store.readback ∧ (forwardMoves n s).store.port = s.store.port ∧
      (forwardMoves n s).store.memory = s.store.memory ∧ (forwardMoves n s).loom.phase = s.loom.phase ∧
      (forwardMoves n s).loom.received = s.loom.received ∧ (forwardMoves n s).loom.place = s.loom.place ∧
      (forwardMoves n s).loom.enables = s.loom.enables ∧ (forwardMoves n s).loom.noteSlot = s.loom.noteSlot ∧
      (forwardMoves n s).loom.refusal = s.loom.refusal ∧ (forwardMoves n s).loom.reply = s.loom.reply ∧
      (forwardMoves n s).design.phase = s.design.phase ∧ (forwardMoves n s).design.received = s.design.received ∧
      (forwardMoves n s).design.place = s.design.place ∧ (forwardMoves n s).design.enables = s.design.enables ∧
      (forwardMoves n s).design.noteSlot = s.design.noteSlot ∧ (forwardMoves n s).design.refusal = s.design.refusal ∧
      (forwardMoves n s).design.reply = s.design.reply ∧ (forwardMoves n s).inReset = s.inReset ∧
      (forwardMoves n s).freeDraws = s.freeDraws ∧ (forwardMoves n s).pending = s.pending ∧
      (forwardMoves n s).wires = s.wires := by
  induction n generalizing s with
  | zero => simp [forwardMoves]
  | succ n ih => simp [forwardMoves, ih]

/-- Backward moves write what an undo writes (R43). -/
@[simp] theorem backwardMoves_keeps (n : Nat) :
    (backwardMoves n s).shaft = s.shaft ∧ (backwardMoves n s).pick.engine = s.pick.engine ∧
      (backwardMoves n s).pick.reforming = s.pick.reforming ∧ (backwardMoves n s).pick.counter = s.pick.counter ∧
      (backwardMoves n s).pick.target = s.pick.target ∧ (backwardMoves n s).pick.history = s.pick.history ∧
      (backwardMoves n s).pick.fault = s.pick.fault ∧ (backwardMoves n s).pick.stopRequest = s.pick.stopRequest ∧
      (backwardMoves n s).frame.slot = s.frame.slot ∧ (backwardMoves n s).frame.owed = s.frame.owed ∧
      (backwardMoves n s).frame.latchedDesc = s.frame.latchedDesc ∧
      (backwardMoves n s).frame.pickFeeder = s.frame.pickFeeder ∧ (backwardMoves n s).frame.staged = s.frame.staged ∧
      (backwardMoves n s).frame.latched = s.frame.latched ∧ (backwardMoves n s).frame.level = s.frame.level ∧
      (backwardMoves n s).frame.guard = s.frame.guard ∧ (backwardMoves n s).frame.available = s.frame.available ∧
      (backwardMoves n s).frame.output = s.frame.output ∧
      (backwardMoves n s).frame.outputRecord = s.frame.outputRecord ∧ (backwardMoves n s).frame.gate = s.frame.gate ∧
      (backwardMoves n s).harness = s.harness ∧ (backwardMoves n s).store.queue = s.store.queue ∧
      (backwardMoves n s).store.readback = s.store.readback ∧ (backwardMoves n s).store.port = s.store.port ∧
      (backwardMoves n s).store.memory = s.store.memory ∧ (backwardMoves n s).loom.phase = s.loom.phase ∧
      (backwardMoves n s).loom.received = s.loom.received ∧ (backwardMoves n s).loom.place = s.loom.place ∧
      (backwardMoves n s).loom.enables = s.loom.enables ∧ (backwardMoves n s).loom.noteSlot = s.loom.noteSlot ∧
      (backwardMoves n s).loom.refusal = s.loom.refusal ∧ (backwardMoves n s).loom.reply = s.loom.reply ∧
      (backwardMoves n s).design.phase = s.design.phase ∧ (backwardMoves n s).design.received = s.design.received ∧
      (backwardMoves n s).design.place = s.design.place ∧ (backwardMoves n s).design.enables = s.design.enables ∧
      (backwardMoves n s).design.noteSlot = s.design.noteSlot ∧
      (backwardMoves n s).design.refusal = s.design.refusal ∧ (backwardMoves n s).design.reply = s.design.reply ∧
      (backwardMoves n s).inReset = s.inReset ∧ (backwardMoves n s).freeDraws = s.freeDraws ∧
      (backwardMoves n s).pending = s.pending ∧ (backwardMoves n s).wires = s.wires := by
  induction n generalizing s with
  | zero => simp [backwardMoves]
  | succ n ih => simp [backwardMoves, ih]

/-- The pick engine at a forward latch leaves the shaft, the harness and the pending frame (R27). -/
@[simp] theorem advance_keeps (d : Option Bool) (kind : RecordKind) (f : Option (Fin 8)) (sub : Bool) (n : Nat) :
    (advance d kind f sub n s).shaft = s.shaft ∧ (advance d kind f sub n s).pick.engine = s.pick.engine ∧
      (advance d kind f sub n s).pick.reforming = s.pick.reforming ∧
      (advance d kind f sub n s).pick.target = s.pick.target ∧ (advance d kind f sub n s).pick.fault = s.pick.fault ∧
      (advance d kind f sub n s).pick.stopRequest = s.pick.stopRequest ∧
      (advance d kind f sub n s).frame.slot = s.frame.slot ∧ (advance d kind f sub n s).frame.owed = s.frame.owed ∧
      (advance d kind f sub n s).frame.latchedDesc = s.frame.latchedDesc ∧
      (advance d kind f sub n s).frame.pickFeeder = s.frame.pickFeeder ∧
      (advance d kind f sub n s).frame.staged = s.frame.staged ∧
      (advance d kind f sub n s).frame.latched = s.frame.latched ∧
      (advance d kind f sub n s).frame.level = s.frame.level ∧
      (advance d kind f sub n s).frame.guard = s.frame.guard ∧
      (advance d kind f sub n s).frame.available = s.frame.available ∧
      (advance d kind f sub n s).frame.output = s.frame.output ∧
      (advance d kind f sub n s).frame.outputRecord = s.frame.outputRecord ∧
      (advance d kind f sub n s).frame.gate = s.frame.gate ∧ (advance d kind f sub n s).harness = s.harness ∧
      (advance d kind f sub n s).store.queue = s.store.queue ∧
      (advance d kind f sub n s).store.readback = s.store.readback ∧
      (advance d kind f sub n s).store.port = s.store.port ∧
      (advance d kind f sub n s).store.memory = s.store.memory ∧
      (advance d kind f sub n s).loom.phase = s.loom.phase ∧
      (advance d kind f sub n s).loom.received = s.loom.received ∧
      (advance d kind f sub n s).loom.place = s.loom.place ∧
      (advance d kind f sub n s).loom.enables = s.loom.enables ∧
      (advance d kind f sub n s).loom.noteSlot = s.loom.noteSlot ∧
      (advance d kind f sub n s).loom.refusal = s.loom.refusal ∧
      (advance d kind f sub n s).loom.reply = s.loom.reply ∧
      (advance d kind f sub n s).design.phase = s.design.phase ∧
      (advance d kind f sub n s).design.received = s.design.received ∧
      (advance d kind f sub n s).design.place = s.design.place ∧
      (advance d kind f sub n s).design.enables = s.design.enables ∧
      (advance d kind f sub n s).design.noteSlot = s.design.noteSlot ∧
      (advance d kind f sub n s).design.refusal = s.design.refusal ∧
      (advance d kind f sub n s).design.reply = s.design.reply ∧ (advance d kind f sub n s).inReset = s.inReset ∧
      (advance d kind f sub n s).freeDraws = s.freeDraws ∧ (advance d kind f sub n s).pending = s.pending ∧
      (advance d kind f sub n s).wires = s.wires := by
  unfold advance
  simp [linkKept_raiseIf]

/-! ## Latches -/

/-- The tracker's part of a latch writes speed, slack and MARGIN LOW alone (R17–R20). -/
@[simp] theorem latchTracker_keeps  :
    (latchTracker s).shaft.angle = s.shaft.angle ∧ (latchTracker s).shaft.lines = s.shaft.lines ∧
      (latchTracker s).shaft.reference = s.shaft.reference ∧ (latchTracker s).shaft.cause = s.shaft.cause ∧
      (latchTracker s).shaft.motion = s.shaft.motion ∧ (latchTracker s).shaft.stillTimer = s.shaft.stillTimer ∧
      (latchTracker s).shaft.offset = s.shaft.offset ∧ (latchTracker s).shaft.timing = s.shaft.timing ∧
      (latchTracker s).shaft.slackCounter = s.shaft.slackCounter ∧ (latchTracker s).shaft.margin = s.shaft.margin ∧
      (latchTracker s).pick = s.pick ∧ (latchTracker s).frame = s.frame ∧ (latchTracker s).harness = s.harness ∧
      (latchTracker s).store = s.store ∧ (latchTracker s).loom.phase = s.loom.phase ∧
      (latchTracker s).loom.received = s.loom.received ∧ (latchTracker s).loom.place = s.loom.place ∧
      (latchTracker s).loom.enables = s.loom.enables ∧ (latchTracker s).loom.noteSlot = s.loom.noteSlot ∧
      (latchTracker s).loom.refusal = s.loom.refusal ∧ (latchTracker s).loom.reply = s.loom.reply ∧
      (latchTracker s).design = s.design ∧ (latchTracker s).inReset = s.inReset ∧
      (latchTracker s).freeDraws = s.freeDraws ∧ (latchTracker s).pending = s.pending ∧
      (latchTracker s).wires = s.wires := by
  unfold latchTracker
  simp [linkKept_raiseIf, Shaft.takeSlack, Shaft.measure]

/-- The float guard at a latch writes the committed state alone (R79, R80). -/
@[simp] theorem latchFloat_keeps (d : Descriptor) :
    (latchFloat d s).shaft = s.shaft ∧ (latchFloat d s).pick = s.pick ∧ (latchFloat d s).frame.slot = s.frame.slot ∧
      (latchFloat d s).frame.owed = s.frame.owed ∧ (latchFloat d s).frame.latchedDesc = s.frame.latchedDesc ∧
      (latchFloat d s).frame.pickFeeder = s.frame.pickFeeder ∧ (latchFloat d s).frame.staged = s.frame.staged ∧
      (latchFloat d s).frame.latched = s.frame.latched ∧ (latchFloat d s).frame.level = s.frame.level ∧
      (latchFloat d s).frame.guard = s.frame.guard ∧ (latchFloat d s).frame.available = s.frame.available ∧
      (latchFloat d s).frame.alternation = s.frame.alternation ∧ (latchFloat d s).frame.output = s.frame.output ∧
      (latchFloat d s).frame.outputRecord = s.frame.outputRecord ∧ (latchFloat d s).frame.gate = s.frame.gate ∧
      (latchFloat d s).harness = s.harness ∧ (latchFloat d s).store = s.store ∧ (latchFloat d s).loom = s.loom ∧
      (latchFloat d s).design = s.design ∧ (latchFloat d s).inReset = s.inReset ∧
      (latchFloat d s).freeDraws = s.freeDraws ∧ (latchFloat d s).pending = s.pending ∧
      (latchFloat d s).wires = s.wires := by
  unfold latchFloat
  split
  · simp
  · split <;> simp

/-- The latch of a READY frame leaves the shaft, the harness, the settings and the availability (R27, R113). -/
@[simp] theorem takeReady_keeps (d : Descriptor) :
    (takeReady d s).shaft = s.shaft ∧ (takeReady d s).pick.engine = s.pick.engine ∧
      (takeReady d s).pick.reforming = s.pick.reforming ∧ (takeReady d s).pick.target = s.pick.target ∧
      (takeReady d s).frame.owed = s.frame.owed ∧ (takeReady d s).frame.level = s.frame.level ∧
      (takeReady d s).frame.guard = s.frame.guard ∧ (takeReady d s).frame.available = s.frame.available ∧
      (takeReady d s).frame.output = s.frame.output ∧ (takeReady d s).frame.outputRecord = s.frame.outputRecord ∧
      (takeReady d s).frame.gate = s.frame.gate ∧ (takeReady d s).harness = s.harness ∧
      (takeReady d s).store.queue = s.store.queue ∧ (takeReady d s).store.readback = s.store.readback ∧
      (takeReady d s).store.port = s.store.port ∧ (takeReady d s).store.memory = s.store.memory ∧
      (takeReady d s).loom.phase = s.loom.phase ∧ (takeReady d s).loom.received = s.loom.received ∧
      (takeReady d s).loom.place = s.loom.place ∧ (takeReady d s).loom.enables = s.loom.enables ∧
      (takeReady d s).loom.noteSlot = s.loom.noteSlot ∧ (takeReady d s).loom.refusal = s.loom.refusal ∧
      (takeReady d s).loom.reply = s.loom.reply ∧ (takeReady d s).design.phase = s.design.phase ∧
      (takeReady d s).design.received = s.design.received ∧ (takeReady d s).design.place = s.design.place ∧
      (takeReady d s).design.enables = s.design.enables ∧ (takeReady d s).design.noteSlot = s.design.noteSlot ∧
      (takeReady d s).design.refusal = s.design.refusal ∧ (takeReady d s).design.reply = s.design.reply ∧
      (takeReady d s).inReset = s.inReset ∧ (takeReady d s).freeDraws = s.freeDraws ∧
      (takeReady d s).pending = s.pending ∧ (takeReady d s).wires = s.wires := by
  unfold takeReady
  dsimp only
  split <;> simp [linkKept_reportFault]

/-- A LATE latch leaves the shaft, the harness, the latched selection and its descriptor (R27, R114). -/
@[simp] theorem takeLate_keeps  :
    (takeLate s).shaft = s.shaft ∧ (takeLate s).pick.engine = s.pick.engine ∧
      (takeLate s).pick.target = s.pick.target ∧ (takeLate s).frame.owed = s.frame.owed ∧
      (takeLate s).frame.latchedDesc = s.frame.latchedDesc ∧ (takeLate s).frame.latched = s.frame.latched ∧
      (takeLate s).frame.level = s.frame.level ∧ (takeLate s).frame.guard = s.frame.guard ∧
      (takeLate s).frame.available = s.frame.available ∧ (takeLate s).frame.output = s.frame.output ∧
      (takeLate s).frame.outputRecord = s.frame.outputRecord ∧ (takeLate s).frame.gate = s.frame.gate ∧
      (takeLate s).harness = s.harness ∧ (takeLate s).store.queue = s.store.queue ∧
      (takeLate s).store.readback = s.store.readback ∧ (takeLate s).store.memory = s.store.memory ∧
      (takeLate s).loom.phase = s.loom.phase ∧ (takeLate s).loom.received = s.loom.received ∧
      (takeLate s).loom.place = s.loom.place ∧ (takeLate s).loom.enables = s.loom.enables ∧
      (takeLate s).loom.noteSlot = s.loom.noteSlot ∧ (takeLate s).loom.refusal = s.loom.refusal ∧
      (takeLate s).loom.reply = s.loom.reply ∧ (takeLate s).design.phase = s.design.phase ∧
      (takeLate s).design.received = s.design.received ∧ (takeLate s).design.place = s.design.place ∧
      (takeLate s).design.enables = s.design.enables ∧ (takeLate s).design.noteSlot = s.design.noteSlot ∧
      (takeLate s).design.refusal = s.design.refusal ∧ (takeLate s).design.reply = s.design.reply ∧
      (takeLate s).inReset = s.inReset ∧ (takeLate s).freeDraws = s.freeDraws ∧ (takeLate s).pending = s.pending ∧
      (takeLate s).wires = s.wires := by
  unfold takeLate
  simp [linkKept_reportFault]

/-- The engine at a forward latch leaves the shaft, the harness and the settings (R27). -/
@[simp] theorem latchEngine_keeps  :
    (latchEngine s).shaft = s.shaft ∧ (latchEngine s).pick.engine = s.pick.engine ∧
      (latchEngine s).pick.target = s.pick.target ∧ (latchEngine s).frame.owed = s.frame.owed ∧
      (latchEngine s).frame.level = s.frame.level ∧ (latchEngine s).frame.guard = s.frame.guard ∧
      (latchEngine s).frame.available = s.frame.available ∧ (latchEngine s).frame.output = s.frame.output ∧
      (latchEngine s).frame.outputRecord = s.frame.outputRecord ∧ (latchEngine s).frame.gate = s.frame.gate ∧
      (latchEngine s).harness = s.harness ∧ (latchEngine s).store.queue = s.store.queue ∧
      (latchEngine s).store.readback = s.store.readback ∧ (latchEngine s).store.memory = s.store.memory ∧
      (latchEngine s).loom.phase = s.loom.phase ∧ (latchEngine s).loom.received = s.loom.received ∧
      (latchEngine s).loom.place = s.loom.place ∧ (latchEngine s).loom.enables = s.loom.enables ∧
      (latchEngine s).loom.noteSlot = s.loom.noteSlot ∧ (latchEngine s).loom.refusal = s.loom.refusal ∧
      (latchEngine s).loom.reply = s.loom.reply ∧ (latchEngine s).design.phase = s.design.phase ∧
      (latchEngine s).design.received = s.design.received ∧ (latchEngine s).design.place = s.design.place ∧
      (latchEngine s).design.enables = s.design.enables ∧ (latchEngine s).design.noteSlot = s.design.noteSlot ∧
      (latchEngine s).design.refusal = s.design.refusal ∧ (latchEngine s).design.reply = s.design.reply ∧
      (latchEngine s).inReset = s.inReset ∧ (latchEngine s).freeDraws = s.freeDraws ∧
      (latchEngine s).pending = s.pending ∧ (latchEngine s).wires = s.wires := by
  unfold latchEngine
  split
  · split <;> simp
  · simp

/-- A forward latch leaves the angle, the offset, the settings and the harness table (R9). -/
@[simp] theorem forwardLatch_keeps  :
    (forwardLatch s).shaft.angle = s.shaft.angle ∧ (forwardLatch s).shaft.lines = s.shaft.lines ∧
      (forwardLatch s).shaft.reference = s.shaft.reference ∧ (forwardLatch s).shaft.cause = s.shaft.cause ∧
      (forwardLatch s).shaft.motion = s.shaft.motion ∧ (forwardLatch s).shaft.stillTimer = s.shaft.stillTimer ∧
      (forwardLatch s).shaft.offset = s.shaft.offset ∧ (forwardLatch s).shaft.timing = s.shaft.timing ∧
      (forwardLatch s).shaft.slackCounter = s.shaft.slackCounter ∧ (forwardLatch s).shaft.margin = s.shaft.margin ∧
      (forwardLatch s).pick.engine = s.pick.engine ∧ (forwardLatch s).pick.target = s.pick.target ∧
      (forwardLatch s).frame.owed = s.frame.owed ∧ (forwardLatch s).frame.level = s.frame.level ∧
      (forwardLatch s).frame.guard = s.frame.guard ∧ (forwardLatch s).frame.available = s.frame.available ∧
      (forwardLatch s).frame.output = s.frame.output ∧ (forwardLatch s).frame.outputRecord = s.frame.outputRecord ∧
      (forwardLatch s).frame.gate = s.frame.gate ∧ (forwardLatch s).harness.live = s.harness.live ∧
      (forwardLatch s).harness.claim = s.harness.claim ∧ (forwardLatch s).harness.keep = s.harness.keep ∧
      (forwardLatch s).harness.fixed = s.harness.fixed ∧ (forwardLatch s).harness.ra = s.harness.ra ∧
      (forwardLatch s).harness.rb = s.harness.rb ∧ (forwardLatch s).harness.drive = s.harness.drive ∧
      (forwardLatch s).store.queue = s.store.queue ∧ (forwardLatch s).store.readback = s.store.readback ∧
      (forwardLatch s).store.memory = s.store.memory ∧ (forwardLatch s).loom.phase = s.loom.phase ∧
      (forwardLatch s).loom.received = s.loom.received ∧ (forwardLatch s).loom.place = s.loom.place ∧
      (forwardLatch s).loom.enables = s.loom.enables ∧ (forwardLatch s).loom.noteSlot = s.loom.noteSlot ∧
      (forwardLatch s).loom.refusal = s.loom.refusal ∧ (forwardLatch s).loom.reply = s.loom.reply ∧
      (forwardLatch s).design.phase = s.design.phase ∧ (forwardLatch s).design.received = s.design.received ∧
      (forwardLatch s).design.place = s.design.place ∧ (forwardLatch s).design.enables = s.design.enables ∧
      (forwardLatch s).design.noteSlot = s.design.noteSlot ∧ (forwardLatch s).design.refusal = s.design.refusal ∧
      (forwardLatch s).design.reply = s.design.reply ∧ (forwardLatch s).inReset = s.inReset ∧
      (forwardLatch s).freeDraws = s.freeDraws ∧ (forwardLatch s).pending = s.pending ∧
      (forwardLatch s).wires = s.wires := by
  simp [forwardLatch]

/-- A reverse latch leaves the angle, the offset, the settings and the harness table (R10). -/
@[simp] theorem reverseLatch_keeps  :
    (reverseLatch s).shaft.angle = s.shaft.angle ∧ (reverseLatch s).shaft.lines = s.shaft.lines ∧
      (reverseLatch s).shaft.reference = s.shaft.reference ∧ (reverseLatch s).shaft.cause = s.shaft.cause ∧
      (reverseLatch s).shaft.motion = s.shaft.motion ∧ (reverseLatch s).shaft.stillTimer = s.shaft.stillTimer ∧
      (reverseLatch s).shaft.offset = s.shaft.offset ∧ (reverseLatch s).shaft.timing = s.shaft.timing ∧
      (reverseLatch s).shaft.interval = s.shaft.interval ∧ (reverseLatch s).shaft.slack = s.shaft.slack ∧
      (reverseLatch s).shaft.margin = s.shaft.margin ∧ (reverseLatch s).pick.engine = s.pick.engine ∧
      (reverseLatch s).pick.target = s.pick.target ∧ (reverseLatch s).frame.level = s.frame.level ∧
      (reverseLatch s).frame.guard = s.frame.guard ∧ (reverseLatch s).frame.available = s.frame.available ∧
      (reverseLatch s).frame.gate = s.frame.gate ∧ (reverseLatch s).harness.live = s.harness.live ∧
      (reverseLatch s).harness.claim = s.harness.claim ∧ (reverseLatch s).harness.keep = s.harness.keep ∧
      (reverseLatch s).harness.fixed = s.harness.fixed ∧ (reverseLatch s).harness.ra = s.harness.ra ∧
      (reverseLatch s).harness.rb = s.harness.rb ∧ (reverseLatch s).harness.drive = s.harness.drive ∧
      (reverseLatch s).store.queue = s.store.queue ∧ (reverseLatch s).store.readback = s.store.readback ∧
      (reverseLatch s).store.memory = s.store.memory ∧ (reverseLatch s).loom.phase = s.loom.phase ∧
      (reverseLatch s).loom.received = s.loom.received ∧ (reverseLatch s).loom.place = s.loom.place ∧
      (reverseLatch s).loom.enables = s.loom.enables ∧ (reverseLatch s).loom.noteSlot = s.loom.noteSlot ∧
      (reverseLatch s).loom.refusal = s.loom.refusal ∧ (reverseLatch s).loom.reply = s.loom.reply ∧
      (reverseLatch s).design.phase = s.design.phase ∧ (reverseLatch s).design.received = s.design.received ∧
      (reverseLatch s).design.place = s.design.place ∧ (reverseLatch s).design.enables = s.design.enables ∧
      (reverseLatch s).design.noteSlot = s.design.noteSlot ∧ (reverseLatch s).design.refusal = s.design.refusal ∧
      (reverseLatch s).design.reply = s.design.reply ∧ (reverseLatch s).inReset = s.inReset ∧
      (reverseLatch s).freeDraws = s.freeDraws ∧ (reverseLatch s).pending = s.pending ∧
      (reverseLatch s).wires = s.wires := by
  unfold reverseLatch
  dsimp only
  split <;> simp [Shaft.cancel]

/-! ## Counts -/

/-- What every count does leaves the offset, the settings, the position and the links (R1, R3). -/
@[simp] theorem countShaft_keeps (dir : Direction) :
    (countShaft dir s).shaft.reference = s.shaft.reference ∧ (countShaft dir s).shaft.cause = s.shaft.cause ∧
      (countShaft dir s).shaft.offset = s.shaft.offset ∧ (countShaft dir s).shaft.timing = s.shaft.timing ∧
      (countShaft dir s).shaft.speed = s.shaft.speed ∧ (countShaft dir s).shaft.interval = s.shaft.interval ∧
      (countShaft dir s).shaft.intervalRunning = s.shaft.intervalRunning ∧
      (countShaft dir s).shaft.measuring = s.shaft.measuring ∧ (countShaft dir s).shaft.slack = s.shaft.slack ∧
      (countShaft dir s).shaft.slackCounter = s.shaft.slackCounter ∧
      (countShaft dir s).shaft.margin = s.shaft.margin ∧ (countShaft dir s).pick = s.pick ∧
      (countShaft dir s).frame.slot = s.frame.slot ∧ (countShaft dir s).frame.owed = s.frame.owed ∧
      (countShaft dir s).frame.latchedDesc = s.frame.latchedDesc ∧
      (countShaft dir s).frame.pickFeeder = s.frame.pickFeeder ∧ (countShaft dir s).frame.staged = s.frame.staged ∧
      (countShaft dir s).frame.latched = s.frame.latched ∧ (countShaft dir s).frame.level = s.frame.level ∧
      (countShaft dir s).frame.guard = s.frame.guard ∧ (countShaft dir s).frame.committed = s.frame.committed ∧
      (countShaft dir s).frame.available = s.frame.available ∧
      (countShaft dir s).frame.alternation = s.frame.alternation ∧ (countShaft dir s).frame.output = s.frame.output ∧
      (countShaft dir s).frame.outputRecord = s.frame.outputRecord ∧
      (countShaft dir s).harness.live = s.harness.live ∧ (countShaft dir s).harness.claim = s.harness.claim ∧
      (countShaft dir s).harness.keep = s.harness.keep ∧ (countShaft dir s).harness.fixed = s.harness.fixed ∧
      (countShaft dir s).harness.ra = s.harness.ra ∧ (countShaft dir s).harness.rb = s.harness.rb ∧
      (countShaft dir s).harness.drive = s.harness.drive ∧ (countShaft dir s).store = s.store ∧
      (countShaft dir s).loom = s.loom ∧ (countShaft dir s).design = s.design ∧
      (countShaft dir s).inReset = s.inReset ∧ (countShaft dir s).freeDraws = s.freeDraws ∧
      (countShaft dir s).pending = s.pending ∧ (countShaft dir s).wires = s.wires := by
  simp [countShaft]

/-- The marks leave the position, the counter, the latched selection and the settings (R11). -/
@[simp] theorem crossMarks_keeps  :
    (crossMarks s).shaft.angle = s.shaft.angle ∧ (crossMarks s).shaft.lines = s.shaft.lines ∧
      (crossMarks s).shaft.reference = s.shaft.reference ∧ (crossMarks s).shaft.cause = s.shaft.cause ∧
      (crossMarks s).shaft.motion = s.shaft.motion ∧ (crossMarks s).shaft.stillTimer = s.shaft.stillTimer ∧
      (crossMarks s).shaft.offset = s.shaft.offset ∧ (crossMarks s).shaft.timing = s.shaft.timing ∧
      (crossMarks s).shaft.speed = s.shaft.speed ∧ (crossMarks s).shaft.interval = s.shaft.interval ∧
      (crossMarks s).shaft.intervalRunning = s.shaft.intervalRunning ∧
      (crossMarks s).shaft.measuring = s.shaft.measuring ∧ (crossMarks s).shaft.slack = s.shaft.slack ∧
      (crossMarks s).shaft.margin = s.shaft.margin ∧ (crossMarks s).pick.engine = s.pick.engine ∧
      (crossMarks s).pick.position = s.pick.position ∧ (crossMarks s).pick.counter = s.pick.counter ∧
      (crossMarks s).pick.target = s.pick.target ∧ (crossMarks s).pick.exchangeNote = s.pick.exchangeNote ∧
      (crossMarks s).pick.history = s.pick.history ∧ (crossMarks s).frame.owed = s.frame.owed ∧
      (crossMarks s).frame.latchedDesc = s.frame.latchedDesc ∧ (crossMarks s).frame.pickFeeder = s.frame.pickFeeder ∧
      (crossMarks s).frame.latched = s.frame.latched ∧ (crossMarks s).frame.level = s.frame.level ∧
      (crossMarks s).frame.guard = s.frame.guard ∧ (crossMarks s).frame.committed = s.frame.committed ∧
      (crossMarks s).frame.available = s.frame.available ∧ (crossMarks s).frame.alternation = s.frame.alternation ∧
      (crossMarks s).harness = s.harness ∧ (crossMarks s).store.queue = s.store.queue ∧
      (crossMarks s).store.readback = s.store.readback ∧ (crossMarks s).store.memory = s.store.memory ∧
      (crossMarks s).loom.phase = s.loom.phase ∧ (crossMarks s).loom.received = s.loom.received ∧
      (crossMarks s).loom.place = s.loom.place ∧ (crossMarks s).loom.enables = s.loom.enables ∧
      (crossMarks s).loom.noteSlot = s.loom.noteSlot ∧ (crossMarks s).loom.refusal = s.loom.refusal ∧
      (crossMarks s).loom.reply = s.loom.reply ∧ (crossMarks s).design.phase = s.design.phase ∧
      (crossMarks s).design.received = s.design.received ∧ (crossMarks s).design.place = s.design.place ∧
      (crossMarks s).design.enables = s.design.enables ∧ (crossMarks s).design.noteSlot = s.design.noteSlot ∧
      (crossMarks s).design.refusal = s.design.refusal ∧ (crossMarks s).design.reply = s.design.reply ∧
      (crossMarks s).inReset = s.inReset ∧ (crossMarks s).freeDraws = s.freeDraws ∧
      (crossMarks s).pending = s.pending ∧ (crossMarks s).wires = s.wires := by
  unfold crossMarks
  dsimp only
  split <;> split <;> simp

/-- A forward count leaves the angle, the motion state and the settings to the count itself (R8). -/
@[simp] theorem countForward_keeps  :
    (countForward s).shaft.angle = s.shaft.angle ∧ (countForward s).shaft.lines = s.shaft.lines ∧
      (countForward s).shaft.reference = s.shaft.reference ∧ (countForward s).shaft.cause = s.shaft.cause ∧
      (countForward s).shaft.motion = s.shaft.motion ∧ (countForward s).shaft.stillTimer = s.shaft.stillTimer ∧
      (countForward s).shaft.timing = s.shaft.timing ∧ (countForward s).shaft.margin = s.shaft.margin ∧
      (countForward s).pick.engine = s.pick.engine ∧ (countForward s).pick.target = s.pick.target ∧
      (countForward s).frame.owed = s.frame.owed ∧ (countForward s).frame.level = s.frame.level ∧
      (countForward s).frame.guard = s.frame.guard ∧ (countForward s).frame.available = s.frame.available ∧
      (countForward s).harness.live = s.harness.live ∧ (countForward s).harness.claim = s.harness.claim ∧
      (countForward s).harness.keep = s.harness.keep ∧ (countForward s).harness.fixed = s.harness.fixed ∧
      (countForward s).harness.ra = s.harness.ra ∧ (countForward s).harness.rb = s.harness.rb ∧
      (countForward s).harness.drive = s.harness.drive ∧ (countForward s).store.queue = s.store.queue ∧
      (countForward s).store.readback = s.store.readback ∧ (countForward s).store.memory = s.store.memory ∧
      (countForward s).loom.phase = s.loom.phase ∧ (countForward s).loom.received = s.loom.received ∧
      (countForward s).loom.place = s.loom.place ∧ (countForward s).loom.enables = s.loom.enables ∧
      (countForward s).loom.noteSlot = s.loom.noteSlot ∧ (countForward s).loom.refusal = s.loom.refusal ∧
      (countForward s).loom.reply = s.loom.reply ∧ (countForward s).design.phase = s.design.phase ∧
      (countForward s).design.received = s.design.received ∧ (countForward s).design.place = s.design.place ∧
      (countForward s).design.enables = s.design.enables ∧ (countForward s).design.noteSlot = s.design.noteSlot ∧
      (countForward s).design.refusal = s.design.refusal ∧ (countForward s).design.reply = s.design.reply ∧
      (countForward s).inReset = s.inReset ∧ (countForward s).freeDraws = s.freeDraws ∧
      (countForward s).pending = s.pending ∧ (countForward s).wires = s.wires := by
  unfold countForward
  split <;> simp

/-- A backward count leaves the angle, the motion state and the settings to the count itself (R8). -/
@[simp] theorem countBackward_keeps  :
    (countBackward s).shaft.angle = s.shaft.angle ∧ (countBackward s).shaft.lines = s.shaft.lines ∧
      (countBackward s).shaft.reference = s.shaft.reference ∧ (countBackward s).shaft.cause = s.shaft.cause ∧
      (countBackward s).shaft.motion = s.shaft.motion ∧ (countBackward s).shaft.stillTimer = s.shaft.stillTimer ∧
      (countBackward s).shaft.timing = s.shaft.timing ∧ (countBackward s).shaft.interval = s.shaft.interval ∧
      (countBackward s).shaft.slack = s.shaft.slack ∧ (countBackward s).shaft.margin = s.shaft.margin ∧
      (countBackward s).pick.engine = s.pick.engine ∧ (countBackward s).pick.target = s.pick.target ∧
      (countBackward s).frame.level = s.frame.level ∧ (countBackward s).frame.guard = s.frame.guard ∧
      (countBackward s).frame.available = s.frame.available ∧ (countBackward s).frame.gate = s.frame.gate ∧
      (countBackward s).harness.live = s.harness.live ∧ (countBackward s).harness.claim = s.harness.claim ∧
      (countBackward s).harness.keep = s.harness.keep ∧ (countBackward s).harness.fixed = s.harness.fixed ∧
      (countBackward s).harness.ra = s.harness.ra ∧ (countBackward s).harness.rb = s.harness.rb ∧
      (countBackward s).harness.drive = s.harness.drive ∧ (countBackward s).store.queue = s.store.queue ∧
      (countBackward s).store.readback = s.store.readback ∧ (countBackward s).store.memory = s.store.memory ∧
      (countBackward s).loom.phase = s.loom.phase ∧ (countBackward s).loom.received = s.loom.received ∧
      (countBackward s).loom.place = s.loom.place ∧ (countBackward s).loom.enables = s.loom.enables ∧
      (countBackward s).loom.noteSlot = s.loom.noteSlot ∧ (countBackward s).loom.refusal = s.loom.refusal ∧
      (countBackward s).loom.reply = s.loom.reply ∧ (countBackward s).design.phase = s.design.phase ∧
      (countBackward s).design.received = s.design.received ∧ (countBackward s).design.place = s.design.place ∧
      (countBackward s).design.enables = s.design.enables ∧ (countBackward s).design.noteSlot = s.design.noteSlot ∧
      (countBackward s).design.refusal = s.design.refusal ∧ (countBackward s).design.reply = s.design.reply ∧
      (countBackward s).inReset = s.inReset ∧ (countBackward s).freeDraws = s.freeDraws ∧
      (countBackward s).pending = s.pending ∧ (countBackward s).wires = s.wires := by
  unfold countBackward
  dsimp only
  split <;> simp

/-- A count leaves the reference state, the settings, the harness table and pattern memory (R1). -/
@[simp] theorem shaftCount_keeps (dir : Direction) :
    (shaftCount dir s).shaft.reference = s.shaft.reference ∧ (shaftCount dir s).shaft.cause = s.shaft.cause ∧
      (shaftCount dir s).shaft.timing = s.shaft.timing ∧ (shaftCount dir s).shaft.margin = s.shaft.margin ∧
      (shaftCount dir s).pick.engine = s.pick.engine ∧ (shaftCount dir s).pick.target = s.pick.target ∧
      (shaftCount dir s).frame.level = s.frame.level ∧ (shaftCount dir s).frame.guard = s.frame.guard ∧
      (shaftCount dir s).frame.available = s.frame.available ∧ (shaftCount dir s).harness.live = s.harness.live ∧
      (shaftCount dir s).harness.claim = s.harness.claim ∧ (shaftCount dir s).harness.keep = s.harness.keep ∧
      (shaftCount dir s).harness.fixed = s.harness.fixed ∧ (shaftCount dir s).harness.ra = s.harness.ra ∧
      (shaftCount dir s).harness.rb = s.harness.rb ∧ (shaftCount dir s).harness.drive = s.harness.drive ∧
      (shaftCount dir s).store.queue = s.store.queue ∧ (shaftCount dir s).store.readback = s.store.readback ∧
      (shaftCount dir s).store.memory = s.store.memory ∧ (shaftCount dir s).loom.phase = s.loom.phase ∧
      (shaftCount dir s).loom.received = s.loom.received ∧ (shaftCount dir s).loom.place = s.loom.place ∧
      (shaftCount dir s).loom.enables = s.loom.enables ∧ (shaftCount dir s).loom.noteSlot = s.loom.noteSlot ∧
      (shaftCount dir s).loom.refusal = s.loom.refusal ∧ (shaftCount dir s).loom.reply = s.loom.reply ∧
      (shaftCount dir s).design.phase = s.design.phase ∧ (shaftCount dir s).design.received = s.design.received ∧
      (shaftCount dir s).design.place = s.design.place ∧ (shaftCount dir s).design.enables = s.design.enables ∧
      (shaftCount dir s).design.noteSlot = s.design.noteSlot ∧ (shaftCount dir s).design.refusal = s.design.refusal ∧
      (shaftCount dir s).design.reply = s.design.reply ∧ (shaftCount dir s).inReset = s.inReset ∧
      (shaftCount dir s).freeDraws = s.freeDraws ∧ (shaftCount dir s).pending = s.pending ∧
      (shaftCount dir s).wires = s.wires := by
  unfold shaftCount
  dsimp only
  split
  · split <;> simp
  · simp

/-- Entry to LOST leaves the angle, the offset, the position, the history and the latched selection (R12, R177). -/
@[simp] theorem loseShaft_keeps (c : LossCause) :
    (loseShaft c s).shaft.angle = s.shaft.angle ∧ (loseShaft c s).shaft.lines = s.shaft.lines ∧
      (loseShaft c s).shaft.motion = s.shaft.motion ∧ (loseShaft c s).shaft.stillTimer = s.shaft.stillTimer ∧
      (loseShaft c s).shaft.offset = s.shaft.offset ∧ (loseShaft c s).shaft.timing = s.shaft.timing ∧
      (loseShaft c s).shaft.interval = s.shaft.interval ∧ (loseShaft c s).shaft.slack = s.shaft.slack ∧
      (loseShaft c s).shaft.slackCounter = s.shaft.slackCounter ∧ (loseShaft c s).shaft.margin = s.shaft.margin ∧
      (loseShaft c s).pick.position = s.pick.position ∧ (loseShaft c s).pick.counter = s.pick.counter ∧
      (loseShaft c s).pick.target = s.pick.target ∧ (loseShaft c s).pick.exchangeNote = s.pick.exchangeNote ∧
      (loseShaft c s).pick.history = s.pick.history ∧ (loseShaft c s).frame.latchedDesc = s.frame.latchedDesc ∧
      (loseShaft c s).frame.pickFeeder = s.frame.pickFeeder ∧ (loseShaft c s).frame.latched = s.frame.latched ∧
      (loseShaft c s).frame.level = s.frame.level ∧ (loseShaft c s).frame.guard = s.frame.guard ∧
      (loseShaft c s).frame.committed = s.frame.committed ∧ (loseShaft c s).frame.available = s.frame.available ∧
      (loseShaft c s).frame.alternation = s.frame.alternation ∧ (loseShaft c s).harness.live = s.harness.live ∧
      (loseShaft c s).harness.claim = s.harness.claim ∧ (loseShaft c s).harness.keep = s.harness.keep ∧
      (loseShaft c s).harness.fixed = s.harness.fixed ∧ (loseShaft c s).harness.ra = s.harness.ra ∧
      (loseShaft c s).harness.rb = s.harness.rb ∧ (loseShaft c s).harness.drive = s.harness.drive ∧
      (loseShaft c s).harness.stage = s.harness.stage ∧ (loseShaft c s).harness.timer = s.harness.timer ∧
      (loseShaft c s).store.bankA = s.store.bankA ∧ (loseShaft c s).store.bankB = s.store.bankB ∧
      (loseShaft c s).store.queue = s.store.queue ∧ (loseShaft c s).store.readback = s.store.readback ∧
      (loseShaft c s).store.memory = s.store.memory ∧ (loseShaft c s).loom.phase = s.loom.phase ∧
      (loseShaft c s).loom.received = s.loom.received ∧ (loseShaft c s).loom.place = s.loom.place ∧
      (loseShaft c s).loom.enables = s.loom.enables ∧ (loseShaft c s).loom.noteSlot = s.loom.noteSlot ∧
      (loseShaft c s).loom.refusal = s.loom.refusal ∧ (loseShaft c s).loom.reply = s.loom.reply ∧
      (loseShaft c s).design.phase = s.design.phase ∧ (loseShaft c s).design.received = s.design.received ∧
      (loseShaft c s).design.place = s.design.place ∧ (loseShaft c s).design.enables = s.design.enables ∧
      (loseShaft c s).design.noteSlot = s.design.noteSlot ∧ (loseShaft c s).design.refusal = s.design.refusal ∧
      (loseShaft c s).design.reply = s.design.reply ∧ (loseShaft c s).inReset = s.inReset ∧
      (loseShaft c s).freeDraws = s.freeDraws ∧ (loseShaft c s).pending = s.pending ∧
      (loseShaft c s).wires = s.wires := by
  unfold loseShaft
  dsimp only
  split <;> simp [linkKept_reportFault, weftOff, Shaft.cancel]

/-- The index leaves the position, the counter and the settings (R4, R5). -/
@[simp] theorem takeIndex_keeps  :
    (takeIndex s).shaft.lines = s.shaft.lines ∧ (takeIndex s).shaft.motion = s.shaft.motion ∧
      (takeIndex s).shaft.stillTimer = s.shaft.stillTimer ∧ (takeIndex s).shaft.timing = s.shaft.timing ∧
      (takeIndex s).shaft.interval = s.shaft.interval ∧ (takeIndex s).shaft.slack = s.shaft.slack ∧
      (takeIndex s).shaft.margin = s.shaft.margin ∧ (takeIndex s).pick.position = s.pick.position ∧
      (takeIndex s).pick.counter = s.pick.counter ∧ (takeIndex s).pick.target = s.pick.target ∧
      (takeIndex s).frame.level = s.frame.level ∧ (takeIndex s).frame.guard = s.frame.guard ∧
      (takeIndex s).frame.available = s.frame.available ∧ (takeIndex s).frame.alternation = s.frame.alternation ∧
      (takeIndex s).harness.live = s.harness.live ∧ (takeIndex s).harness.claim = s.harness.claim ∧
      (takeIndex s).harness.keep = s.harness.keep ∧ (takeIndex s).harness.fixed = s.harness.fixed ∧
      (takeIndex s).harness.ra = s.harness.ra ∧ (takeIndex s).harness.rb = s.harness.rb ∧
      (takeIndex s).harness.drive = s.harness.drive ∧ (takeIndex s).store.queue = s.store.queue ∧
      (takeIndex s).store.readback = s.store.readback ∧ (takeIndex s).store.memory = s.store.memory ∧
      (takeIndex s).loom.phase = s.loom.phase ∧ (takeIndex s).loom.received = s.loom.received ∧
      (takeIndex s).loom.place = s.loom.place ∧ (takeIndex s).loom.enables = s.loom.enables ∧
      (takeIndex s).loom.noteSlot = s.loom.noteSlot ∧ (takeIndex s).loom.refusal = s.loom.refusal ∧
      (takeIndex s).loom.reply = s.loom.reply ∧ (takeIndex s).design.phase = s.design.phase ∧
      (takeIndex s).design.received = s.design.received ∧ (takeIndex s).design.place = s.design.place ∧
      (takeIndex s).design.enables = s.design.enables ∧ (takeIndex s).design.noteSlot = s.design.noteSlot ∧
      (takeIndex s).design.refusal = s.design.refusal ∧ (takeIndex s).design.reply = s.design.reply ∧
      (takeIndex s).inReset = s.inReset ∧ (takeIndex s).freeDraws = s.freeDraws ∧ (takeIndex s).pending = s.pending ∧
      (takeIndex s).wires = s.wires := by
  unfold takeIndex
  split
  · simp
  · dsimp only
    split <;> simp
  · simp

end Sys2Proof.Machine
end

