-- ==== Sys2Proof/Laws/Links.lean ====
section
/-! SUPPORT. The transaction of a link, case by case (R182–R188). -/

namespace Sys2Proof.Machine

variable {k : Link} {code : Byte} {o : Offer} {lo hi : Nat} {p : List Byte} {own : State → State × Reply} {s : State}

/-- A link that is not listening takes no command (log 8). -/
theorem transact_deaf (h : s.listens k = false) : transact k code o lo hi p own s = s := by simp [transact, h]

/-- A command of the other link (R185). -/
theorem transact_wrongLink (h : s.listens k = true) (hp : p.length ≤ maxParams) (ho : o.on k = false) :
    transact k code o lo hi p own s = answer k code (.refused .wrongLink .none) s := by
  simp [transact, h, ho, Nat.not_lt.mpr hp]

/-- A parameter length the command cannot carry (R185). -/
theorem transact_length (h : s.listens k = true) (hp : p.length ≤ maxParams) (ho : o.on k = true)
    (hl : p.length < lo ∨ hi < p.length) :
    transact k code o lo hi p own s = answer k code (.refused .length (.number p.length)) s := by
  simp [transact, h, ho, Nat.not_lt.mpr hp, hl]

/-- A command that passes the checks at the link is answered by its own rule (R182). -/
theorem transact_own (h : s.listens k = true) (hp : p.length ≤ maxParams) (ho : o.on k = true) (hlo : lo ≤ p.length)
    (hhi : p.length ≤ hi) : transact k code o lo hi p own s = answer k code (own s).2 (own s).1 := by
  simp [transact, h, ho, Nat.not_lt.mpr hp, Nat.not_lt.mpr hlo, Nat.not_lt.mpr hhi]

/-- Everything a complete command can do: nothing, a refusal of the link, or its own rule with its answer. -/
theorem transact_cases (k : Link) (code : Byte) (o : Offer) (lo hi : Nat) (p : List Byte) (own : State → State × Reply)
    (s : State) :
    (s.listens k = false ∧ transact k code o lo hi p own s = s) ∨
      (s.listens k = true ∧ maxParams < p.length ∧
        transact k code o lo hi p own s = refuseOverLong k code p.length s) ∨
      (s.listens k = true ∧ ∃ reason detail,
        transact k code o lo hi p own s = answer k code (.refused reason detail) s) ∨
      (s.listens k = true ∧ o.on k = true ∧ lo ≤ p.length ∧ p.length ≤ hi ∧
        transact k code o lo hi p own s = answer k code (own s).2 (own s).1) := by
  by_cases h : s.listens k = true
  · by_cases hp : maxParams < p.length
    · exact .inr (.inl ⟨h, hp, by simp [transact, h, hp]⟩)
    · by_cases ho : o.on k = true
      · by_cases hl : p.length < lo ∨ hi < p.length
        · exact .inr (.inr (.inl ⟨h, _, _, transact_length h (by omega) ho hl⟩))
        · exact .inr (.inr (.inr ⟨h, ho, by omega, by omega, transact_own h (by omega) ho (by omega) (by omega)⟩))
      · exact .inr (.inr (.inl ⟨h, _, _, transact_wrongLink h (by omega) (by simpa using ho)⟩))
  · exact .inl ⟨by simpa using h, transact_deaf (by simpa using h)⟩

/-- A property that the answers of the link keep and that the command's own rule keeps is kept by the command. -/
theorem transact_keeps {P : State → Prop} (ha : ∀ r (x : State), P x → P (answer k code r x))
    (hl : ∀ n (x : State), P x → P (refuseOverLong k code n x)) (ho : P s → P (own s).1) (h : P s) :
    P (transact k code o lo hi p own s) := by
  rcases transact_cases k code o lo hi p own s with ⟨-, e⟩ | ⟨-, -, e⟩ | ⟨-, _, _, e⟩ | ⟨-, -, -, -, e⟩ <;> rw [e]
  · exact h
  · exact hl _ _ h
  · exact ha _ _ h
  · exact ha _ _ (ho h)

/-- What an unknown code does (R185). -/
theorem transactUnknown_own (h : s.listens k = true) (hp : p.length ≤ maxParams) :
    transactUnknown k code p s = answer k code (.refused .unknownCommand .none) s := by
  simp [transactUnknown, h, Nat.not_lt.mpr hp]

/-- The refusal of an over-long length keeps every block (R186). -/
@[simp] theorem refuseOverLong_keeps (k : Link) (code : Byte) (n : Nat) (s : State) :
    (refuseOverLong k code n s).shaft = s.shaft ∧ (refuseOverLong k code n s).pick = s.pick ∧
      (refuseOverLong k code n s).frame = s.frame ∧ (refuseOverLong k code n s).harness = s.harness ∧
      (refuseOverLong k code n s).store = s.store ∧ (refuseOverLong k code n s).inReset = s.inReset ∧
      (refuseOverLong k code n s).freeDraws = s.freeDraws ∧ (refuseOverLong k code n s).pending = s.pending ∧
      (refuseOverLong k code n s).wires = s.wires := by
  simp [refuseOverLong]

/-- A bank command with a byte that names a bank goes on with that bank. -/
theorem withBank_of (own : BankId → State → State × Reply) (b : BankId) (rest : List Byte) (s : State) :
    withBank (BitVec.ofNat 8 (bankCode b) :: rest) own s = own b s := by
  cases b <;> rfl

end Sys2Proof.Machine
end

