-- ==== Sys2Proof/Laws/Memory.lean ====
section
/-! SUPPORT. Pattern memory: a read after a write, and the canonical form (R145). -/

namespace Sys2Proof.Machine

/-- A byte just written reads as written. -/
@[simp] theorem readByte_writeByte_same (m : Memory) (a : Nat) (b : Byte) : readByte (writeByte m a b) a = some b := by
  induction m with
  | nil => simp [writeByte, readByte]
  | cons x m ih =>
    obtain ⟨c, y⟩ := x
    simp only [writeByte]
    split
    · simp [readByte]
    · split
      · simp [readByte]
      · rename_i h
        simp [readByte, Ne.symm h, ih]

/-- A write leaves every other byte. -/
theorem readByte_writeByte_other (m : Memory) (a c : Nat) (b : Byte) (h : c ≠ a) :
    readByte (writeByte m a b) c = readByte m c := by
  induction m with
  | nil => simp [writeByte, readByte, Ne.symm h]
  | cons x m ih =>
    obtain ⟨d, y⟩ := x
    simp only [writeByte]
    split
    · simp [readByte, Ne.symm h]
    · split
      · rename_i e
        subst e
        simp [readByte, Ne.symm h]
      · simp [readByte, ih]

/-- A write of bytes leaves every byte outside them. -/
theorem readByte_writeBytes_other (bs : List Byte) (m : Memory) (a c : Nat) (h : c < a ∨ a + bs.length ≤ c) :
    readByte (writeBytes m a bs) c = readByte m c := by
  induction bs generalizing m a with
  | nil => rfl
  | cons b bs ih =>
    simp only [List.length_cons] at h
    rw [writeBytes, ih _ _ (by omega), readByte_writeByte_other _ _ _ _ (by omega)]

/-- Bytes just written read as written. -/
theorem readByte_writeBytes_same (bs : List Byte) (m : Memory) (a i : Nat) (h : i < bs.length) :
    readByte (writeBytes m a bs) (a + i) = some bs[i] := by
  induction bs generalizing m a i with
  | nil => exact absurd h (by simp)
  | cons b bs ih =>
    cases i with
    | zero => simp [writeBytes, readByte_writeBytes_other]
    | succ i =>
      rw [writeBytes, ← Nat.add_assoc a i 1, Nat.add_right_comm, ih _ _ _ (by simpa using h)]
      simp

/-- Every address listed after a write of a byte was listed before or is the one written. -/
theorem mem_writeByte {m : Memory} {a : Nat} {b : Byte} {x : Host.Cell} (h : x ∈ writeByte m a b) :
    x ∈ m ∨ x.1 = a := by
  induction m with
  | nil =>
    simp only [writeByte, List.mem_singleton] at h
    exact .inr (by rw [h])
  | cons y m ih =>
    obtain ⟨c, z⟩ := y
    simp only [writeByte] at h
    split at h
    · rcases List.mem_cons.mp h with rfl | h
      · exact .inr rfl
      · exact .inl h
    · split at h
      · rcases List.mem_cons.mp h with rfl | h
        · exact .inr rfl
        · exact .inl (List.mem_cons_of_mem _ h)
      · rcases List.mem_cons.mp h with rfl | h
        · exact .inl List.mem_cons_self
        · rcases ih h with h | h
          · exact .inl (List.mem_cons_of_mem _ h)
          · exact .inr h

/-- Writing a byte keeps the canonical form. -/
theorem wf_writeByte {m : Memory} (a : Nat) (b : Byte) (h : Memory.wf m = true) :
    Memory.wf (writeByte m a b) = true := by
  simp only [Memory.wf, decide_eq_true_eq] at h ⊢
  induction m with
  | nil => simp [writeByte]
  | cons x m ih =>
    obtain ⟨c, y⟩ := x
    rw [List.pairwise_cons] at h
    simp only [writeByte]
    split
    · rename_i hac
      refine List.pairwise_cons.mpr ⟨fun z hz => ?_, List.pairwise_cons.mpr h⟩
      rcases List.mem_cons.mp hz with rfl | hz
      · exact hac
      · exact Nat.lt_trans hac (h.1 z hz)
    · split
      · rename_i e
        subst e
        exact List.pairwise_cons.mpr h
      · refine List.pairwise_cons.mpr ⟨fun z hz => ?_, ih h.2⟩
        rcases mem_writeByte hz with hz | hz
        · exact h.1 z hz
        · simp only at *
          omega

/-- Writing bytes keeps the canonical form. -/
theorem wf_writeBytes {m : Memory} (a : Nat) (bs : List Byte) (h : Memory.wf m = true) :
    Memory.wf (writeBytes m a bs) = true := by
  induction bs generalizing m a with
  | nil => exact h
  | cons b bs ih => exact ih _ (wf_writeByte a b h)

/-- The memory of State.reset is in its canonical form. -/
theorem wf_reset : Memory.wf State.reset.store.memory = true := by decide

/-- A burst read whole has its length. -/
theorem readBytes_length {m : Memory} {a n : Nat} {d : List Byte} (h : readBytes m a n = some d) : d.length = n := by
  induction n generalizing a d with
  | zero => simpa [readBytes] using h.symm
  | succ n ih =>
    simp only [readBytes] at h
    split at h
    · rename_i bs _ hbs
      cases h
      simp [ih hbs]
    · cases h

/-- A burst's data is 64 bytes (R161, R163). -/
theorem burstData_length (cells : List Byte) (n : Nat) : (burstData cells n).length = 64 := by
  simp [burstData, burstBytes]

end Sys2Proof.Machine
end

