-- ==== Sys2Proof/Laws/Wires.lean ====
section
/-! SUPPORT. A transaction byte by byte: the fields each byte moves, and everything that a change on the lines of a link
can do (R182, R183, R186, R187). -/

namespace Sys2Proof.Machine

variable {k : Link} {b : Byte} {s : State}

/-- A link between transactions keeps its flags, enables, attention, note and refusal record (R187). -/
@[simp] theorem LinkState.idle_fields (l : LinkState) :
    l.idle.phase = .idle ∧ l.idle.received = [] ∧ l.idle.place = 0 ∧ l.idle.reply = none ∧ l.idle.flags = l.flags ∧
      l.idle.enables = l.enables ∧ l.idle.attention = l.attention ∧ l.idle.noteSlot = l.noteSlot ∧
      l.idle.refusal = l.refusal := ⟨rfl, rfl, rfl, rfl, rfl, rfl, rfl, rfl, rfl⟩

/-- A byte received changes the bytes received and nothing else (R182). -/
@[simp] theorem LinkState.receive_fields (b : Byte) (l : LinkState) :
    (l.receive b).phase = l.phase ∧ (l.receive b).received = l.received ++ [b] ∧ (l.receive b).place = l.place ∧
      (l.receive b).reply = l.reply ∧ (l.receive b).flags = l.flags ∧ (l.receive b).enables = l.enables ∧
      (l.receive b).attention = l.attention ∧ (l.receive b).noteSlot = l.noteSlot ∧
      (l.receive b).refusal = l.refusal := ⟨rfl, rfl, rfl, rfl, rfl, rfl, rfl, rfl, rfl⟩

/-- Select on an idle link begins the command phase (R182); on any other link it changes nothing. -/
theorem LinkState.select_cases (l : LinkState) :
    (l.phase = .idle ∧ l.select = { l.idle with phase := .command }) ∨ (l.phase ≠ .idle ∧ l.select = l) := by
  by_cases h : l.phase = .idle
  · exact .inl ⟨h, by simp [LinkState.select, h]⟩
  · exact .inr ⟨h, by simp [LinkState.select, h]⟩

/-- Everything a byte clocked after the command phase does: it moves the transaction on by one place, and the second
turnaround byte begins the reply (R182, R183). -/
theorem LinkState.passByte_cases (l : LinkState) :
    ((l.phase = .idle ∨ l.phase = .command) ∧ l.passByte = l) ∨
      ((l.phase = .reply ∨ l.phase = .discarding) ∧ l.passByte = { l with place := l.place + 1 }) ∨
      (l.phase = .turnaround ∧ l.place = 0 ∧ l.passByte = { l with place := l.place + 1 }) ∨
      (l.phase = .turnaround ∧ l.place ≠ 0 ∧ l.passByte = { l with phase := .reply, place := l.place + 1 }) := by
  cases h : l.phase
  · exact .inl ⟨.inl rfl, by simp [LinkState.passByte, h]⟩
  · exact .inl ⟨.inr rfl, by simp [LinkState.passByte, h]⟩
  · by_cases hp : l.place = 0
    · exact .inr (.inr (.inl ⟨rfl, hp, by simp [LinkState.passByte, h, hp]⟩))
    · exact .inr (.inr (.inr ⟨rfl, hp, by simp [LinkState.passByte, h, hp]⟩))
  · exact .inr (.inl ⟨.inl rfl, by simp [LinkState.passByte, h]⟩)
  · exact .inr (.inl ⟨.inr rfl, by simp [LinkState.passByte, h]⟩)

/-- The link of a state that is receiving a command. -/
@[simp] theorem link_receiving (bytes : List Byte) :
    (s.receiving k bytes).link k = { s.link k with phase := .command, received := bytes, place := 0, reply := none } := by
  simp [State.receiving]

/-- Receiving a command changes its link alone. -/
@[simp] theorem receiving_inReset (bytes : List Byte) : (s.receiving k bytes).inReset = s.inReset := by
  simp [State.receiving]

/-- The link that is not receiving stays. -/
@[simp] theorem receiving_other (bytes : List Byte) :
    (s.receiving k bytes).link (otherLink k) = s.link (otherLink k) := by simp [State.receiving]

/-- A byte that does not complete the command is only received (R182). -/
theorem takeWire_receives {bytes : List Byte} (h : s.inReset = false) (hn : presentedRow k (bytes ++ [b]) = none) :
    takeWire (.clock k b) (s.receiving k bytes) = .next (s.receiving k (bytes ++ [b])) := by
  cases k <;> simp [takeWire, clockByte, State.receiving, h, LinkState.receive, hn]

/-- The byte that completes the command presents its row, which is taken at that moment (R182, R186). -/
theorem takeWire_completes {bytes : List Byte} {i : Instr} (h : s.inReset = false)
    (hi : presentedRow k (bytes ++ [b]) = some i) :
    takeWire (.clock k b) (s.receiving k bytes) = exec i (s.receiving k (bytes ++ [b])) := by
  cases k <;> simp [takeWire, clockByte, State.receiving, h, LinkState.receive, hi]

/-- Everything that a change on the lines of a link can do: nothing, a change of that link alone, or a row. -/
theorem takeWire_cases (w : Wire) (s : State) :
    takeWire w s = .next s ∨ (∃ k l, l ∈ [(s.link k).select, (s.link k).passByte] ∧ takeWire w s = .next (s.setLink k l)) ∨
      (∃ k b, (s.link k).phase = .command ∧ takeWire w s = .next (s.setLink k ((s.link k).receive b))) ∨
      (∃ k b i, (s.link k).phase = .command ∧ takeWire w s = exec i (s.setLink k ((s.link k).receive b))) ∨
      ∃ k, takeWire w s = exec (.selectReleasedEarly k) s ∨ takeWire w s = exec (.selectReleased k) s := by
  cases w with
  | select k =>
    cases h : s.inReset
    · exact .inr (.inl ⟨k, (s.link k).select, by simp, by simp [takeWire, assertSelect, h]⟩)
    · exact .inl (by simp [takeWire, assertSelect, h])
  | clock k b =>
    cases h : s.inReset
    · by_cases hc : (s.link k).phase = .command
      · cases hr : presentedRow k ((s.link k).received ++ [b]) with
        | none => exact .inr (.inr (.inl ⟨k, b, hc, by simp [takeWire, clockByte, h, hc, hr]⟩))
        | some i => exact .inr (.inr (.inr (.inl ⟨k, b, i, hc, by simp [takeWire, clockByte, h, hc, hr]⟩)))
      · exact .inr (.inl ⟨k, (s.link k).passByte, by simp, by simp [takeWire, clockByte, h, hc]⟩)
    · exact .inl (by simp [takeWire, clockByte, h])
  | release k =>
    refine .inr (.inr (.inr (.inr ⟨k, ?_⟩)))
    by_cases hc : (s.link k).phase = .command
    · exact .inl (by simp [takeWire, releaseSelect, hc])
    · exact .inr (by simp [takeWire, releaseSelect, hc])

/-- Everything a step can do: the command at the front of the queue, else what waits on the lines, else a microsecond. -/
theorem step_cases (s : State) :
    (∃ c rest, s.pending = c :: rest ∧ step s = exec c { s with pending := rest }) ∨
      (∃ w rest, s.pending = [] ∧ s.wires = w :: rest ∧ step s = takeWire w { s with wires := rest }) ∨
      (s.pending = [] ∧ s.wires = [] ∧ step s = .next (tick s)) := by
  cases hp : s.pending with
  | cons c rest => exact .inl ⟨c, rest, rfl, by simp [step, hp]⟩
  | nil =>
    cases hw : s.wires with
    | cons w rest => exact .inr (.inl ⟨w, rest, rfl, rfl, by simp [step, hp, hw]⟩)
    | nil => exact .inr (.inr ⟨rfl, rfl, by simp [step, hp, hw]⟩)

end Sys2Proof.Machine
end

