-- ==== Sys2Proof/Tests/Slice0.lean ====
section
/-! SUPPORT. The author's own tests: well-formedness, transactions written out byte by byte, the manual's worked values,
and a witness for the hypotheses of every statement. Expected values come from spec/, named beside each test. -/

namespace Sys2Proof.Tests

open Sys2Proof.Machine

/-! ## Well-formed terms: an ill-formed term for each check -/

theorem test_wellFormed_refuses_long_params : (Instr.writeLine .design (List.replicate 2065 0#8)).wellFormed = false := by
  simp only [Instr.wellFormed, Instr.params, List.length_replicate]
  rfl

theorem test_wellFormed_refuses_known_code_as_unknown : (Instr.unknownCommand .loom 0x20#8 []).wellFormed = false := by
  decide

theorem test_wellFormed_refuses_short_over_long : (Instr.overLongLength .loom 0x45#8 2064#16).wellFormed = false := by
  decide

theorem test_wellFormed_takes_boundaries :
    (Instr.overLongLength .loom 0x45#8 2065#16).wellFormed = true ∧
      (Instr.unknownCommand .loom 0x11#8 []).wellFormed = true ∧
      (Instr.unknownCommand .design 0x4C#8 []).wellFormed = true ∧
      (Instr.unknownCommand .design 0x36#8 []).wellFormed = true ∧ (Instr.unknownCommand .loom 0#8 []).wellFormed = true := by
  decide

/-! ## Rows from bytes (R182, R186, R187, R200) -/

theorem test_table_spells_no_word : decodeTableWord 8 0x01 = none ∧ decodeTableWord 24 0x210001 = none := ⟨rfl, rfl⟩

/-- STEP BACK 3 on the loom link: code 21h, length 00 01, the count. -/
theorem test_row_step_back : transactionRow .loom [0x21, 0x00, 0x01, 0x03] = .stepBack .loom [0x03] := by
  simp [transactionRow, commandRow, maxParams]

/-- SET TIMING with its fourteen bytes, and bytes clocked after the last parameter ignored. -/
theorem test_row_set_timing :
    transactionRow .loom
        [0x2D, 0x00, 0x0E, 0, 6, 12, 0, 64, 0, 160, 0, 200, 2, 0x58, 3, 0, 20, 0xAA, 0xBB] =
      .setTiming .loom [0, 6, 12, 0, 64, 0, 160, 0, 200, 2, 0x58, 3, 0, 20] := by
  simp [transactionRow, commandRow, maxParams]

/-- OPEN ARTICLE B, 608 by 2, UP, on the design link. -/
theorem test_row_open_article :
    transactionRow .design [0x40, 0, 6, 1, 0x02, 0x60, 0, 2, 0] = .openArticle .design [1, 0x02, 0x60, 0, 2, 0] := by
  simp [transactionRow, commandRow, maxParams]

theorem test_row_fetch_line : transactionRow .design [0x4B, 0, 0] = .fetchLine .design [] := by
  simp [transactionRow, commandRow, maxParams]

theorem test_row_status : transactionRow .design [0x01, 0, 0] = .status .design [] := by
  simp [transactionRow, commandRow, maxParams]

/-- 4Ch names no command (R200). -/
theorem test_row_unknown : transactionRow .design [0x4C, 0, 1, 7] = .unknownCommand .design 0x4C [7] := by
  simp [transactionRow, commandRow, maxParams]

/-- A length of 2,065 is over-long (R186). -/
theorem test_row_over_long : transactionRow .loom [0x45, 0x08, 0x11] = .overLongLength .loom 0x45 2065 := by
  simp [transactionRow, maxParams]

/-- Release before the last parameter (R187). -/
theorem test_row_released_early :
    transactionRow .loom [0x21, 0, 1] = .selectReleasedEarly .loom ∧
      transactionRow .loom [] = .selectReleasedEarly .loom := by simp [transactionRow, maxParams]

/-! ## A transaction on the lines of its link (R182, R183, R187) -/

/-- STEP BACK 3 clocked byte by byte: the command phase at select, the row with the fourth byte, turnaround, reply. -/
def stepBackWires (n : Nat) : List Wire :=
  ([Wire.select .loom] ++ [0x21#8, 0, 1, 3].map (Wire.clock .loom) ++ List.replicate 7 (Wire.clock .loom 0) ++
    [Wire.release .loom]).take n

/-- The loom link after n changes on its lines, from reset. -/
def loomAfter (n : Nat) : Option LinkState :=
  match takeWires (stepBackWires n) State.reset with
  | .next t => some t.loom
  | _ => none

theorem test_transaction_phases :
    [1, 4, 5, 6, 7, 12, 13].map (fun n => (loomAfter n).map fun l => (l.phase, l.place)) =
      [some (.command, 0), some (.command, 0), some (.turnaround, 0), some (.turnaround, 1), some (.reply, 2),
        some (.reply, 7), some (.idle, 0)] := by decide

/-- With nothing weaving the reply is REFUSED, NO ARTICLE, no data: 04h 06h 00h 00h after two bytes of 0 (R42, R200). -/
theorem test_transaction_reply :
    (List.range 8).map (fun n => (loomAfter (5 + n)).map LinkState.sends) =
      [some 0, some 0, some 4, some 6, some 0, some 0, some 0, some 0] := by decide

/-! ## Small states -/

/-- The state after a row, or the one before it where the row stops. -/
def after (i : Instr) (s : State) : State :=
  match exec i s with
  | .next t => t
  | _ => s

/-- A 2 by 2 plain weave. -/
def plain : Grid := { width := 2, height := 2, rows := [[true, false], [false, true]] }

/-- An article of a width and a height whose lines all have a scheme of two steps. -/
def cloth (w h : Nat) : Article :=
  { Article.fresh w h .up with
    schemes := (Vector.replicate 8 none).set 0 (some [{ system := 0, shift := 0 }, { system := 0, shift := 1 }])
    weaves := Vector.replicate 8 (Vector.replicate 4 (some plain))
    feeders := Vector.replicate 8 (some { primary := 0, alternate := some 1, mode := .alternate })
    lines := List.replicate h (some 0) }

/-- A table with two hooks on chain 0 in one FIGURE section of two columns. -/
def twoHooks : HarnessTable :=
  { HarnessTable.empty with
    chains := HarnessTable.empty.chains.set 0 { length := 2, enabled := true, ignoreRA := false, ignoreRB := false }
    sections := (Vector.replicate 16 none).set 0
      (some { first := 0, count := 2, kind := .figure 0 2 .straight }) }

/-- A bank in a state with the cloth of width 8 and two lines. -/
def bankWith (x : BankState) : Bank := { state := x, record := some (cloth 8 2), closeResult := .ok }

/-- A position of bank A. -/
def posA (line step rep : Nat) : Position := { bank := .bankA, line := line, step := step, rep := rep }

/-- Bank A weaves at (0, 1, 0), bank B is ARMED, the shaft REFERENCED and at rest. -/
def woven : State :=
  { State.reset with
    shaft := { Shaft.reset with reference := .referenced, offset := 100 }
    pick := { PickEngine.reset with engine := .weaving, position := some (posA 0 1 0) }
    harness := { HarnessUnit.reset with live := twoHooks, driversOn := (Vector.replicate 8 false).set 0 true }
    store := { PatternStore.reset with bankA := bankWith .weaving, bankB := bankWith .armed } }

/-- The woven state with d at a value. -/
def atOffset (d : Int) (s : State) : State := { s with shaft := { s.shaft with offset := d } }

/-- The woven state with a position of bank A. -/
def atPick (line step rep : Nat) (s : State) : State :=
  { s with pick := { s.pick with position := some (posA line step rep) } }

/-- A forward frame of a position. -/
def frameOf (p : Position) (swap : Bool) : Descriptor :=
  { kind := .forward, level := false, swap := swap, position := p, pickValue := 1, system := 0,
    entry := some { primary := 0, alternate := some 1, mode := .alternate }, resolved := some 0, substituted := false,
    bindCount := 0, violation := false }

/-- A slot that holds a frame. -/
def withSlot (x : Slot) (s : State) : State := { s with frame := { s.frame with slot := x } }

/-- What the float test reads with the guard off. -/
def noGuard : GuardView := { settings := { mode := .off, up := 0, down := 0 }, committed := [] }

/-- A slot with a frame still assembling. -/
def assembling (k : FrameKind) (p : Position) (st : Stage) : Slot :=
  .assembling { frameOf p false with kind := k } noGuard st

/-- A state with bank states. -/
def banks (a b : BankState) (s : State) : State :=
  { s with store := { s.store with bankA := bankWith a, bankB := bankWith b } }

/-- The shaft moves forward. -/
def moving (s : State) : State := { s with shaft := { s.shaft with motion := .forward, stillTimer := some 200000 } }

/-- The shaft is LOST with an article weaving. -/
def lost : State :=
  { woven with
    shaft := { woven.shaft with reference := .lost, cause := .illegalStep }
    pick := { woven.pick with engine := .unsynchronised, stopRequest := true }
    frame := { woven.frame with owed := some .reform } }

/-- The shaft is UNREFERENCED with an article weaving. -/
def unreferenced : State :=
  { woven with
    shaft := { woven.shaft with reference := .unreferenced }
    frame := { woven.frame with owed := some .swap } }

/-! ## Worked values of the manual -/

/-- The table of R18. -/
theorem test_speed_table :
    speedOf 14648 = 4095 ∧ speedOf 14649 = 4095 ∧ speedOf 14652 = 4095 ∧ speedOf 14653 = 4094 ∧ speedOf 115385 = 519 ∧
      speedOf 16777214 = 3 ∧ speedOf 16777215 = 0 ∧ speedOf 0 = 4095 := by decide

/-- "Referencing and index correction" (spec/01): A_L = 40, d = 984 at the index, 982 corrected to 984 at angle 1,022. -/
theorem test_index_references :
    (after .index
      { State.reset with shaft := { Shaft.reset with angle := 517, timing := { Timing.default with latchAngle := 40 } } }).shaft.offset
      = 984 := by decide

theorem test_index_corrects :
    let t := after .index
      { State.reset with
        shaft := { Shaft.reset with
          reference := .referenced, angle := 1022, offset := 982, timing := { Timing.default with latchAngle := 40 } } }
    t.shaft.angle = 0 ∧ t.shaft.offset = 984 := by decide

/-- "A SET TIMING refused and taken" (spec/01): taken at angle 500 gives d = 494 and a still time of 50. -/
theorem test_set_timing_taken :
    let t := after (.setTiming .loom [0, 6, 12, 0, 64, 0, 160, 0, 200, 2, 0x58, 3, 0, 20])
      { State.reset with shaft := { Shaft.reset with reference := .referenced, angle := 500 } }
    t.shaft.offset = 494 ∧ t.shaft.timing.stillTime = 50 ∧ t.shaft.timing.backOff = 12 := by decide

/-- The same with A_L = 1,022 is refused with RANGE naming the latch angle. -/
theorem test_set_timing_refused :
    (after (.setTiming .loom [0x03, 0xFE, 12, 0, 64, 0, 160, 0, 200, 2, 0x58, 3, 0, 20]) State.reset).loom.refusal =
      some { code := 0x2D, reason := .range, detail := .number 0 } := by decide

/-- "Mapping hooks to columns" (spec/03), section 1: c0 = 0, w = 601, POINT; hook 1,016 in STRAIGHT takes 399. -/
theorem test_columns :
    figureColumn 0 601 .point 600 = 600 ∧ figureColumn 0 601 .point 601 = 599 ∧ figureColumn 0 601 .point 1000 = 200 ∧
      figureColumn 0 601 .point 1199 = 1 ∧ figureColumn 0 601 .point 1200 = 0 ∧ figureColumn 0 601 .point 2399 = 1 ∧
      figureColumn 0 601 .straight 1000 = 399 := by decide

/-- The bursts of R61's table. -/
theorem test_line_bursts :
    lineBursts 8 = 1 ∧ lineBursts 256 = 1 ∧ lineBursts 257 = 2 ∧ lineBursts 608 = 3 ∧ lineBursts 8192 = 32 ∧
      burstAddress .bankA 3 0 = 6144 ∧ burstAddress .bankB 0 1 = 16777280 := by decide

/-- The weave (2, 1) of the worked case of spec/03: row r lifts column (3 r + 1) mod 8. -/
def worked21 : Grid :=
  { width := 8, height := 8, rows := (List.range 8).map fun r => (List.range 8).map fun c => c == (3 * r + 1) % 8 }

/-- The article of the worked case, as far as the pick (3, 2) meets it. -/
def worked : Article :=
  { Article.fresh 608 4 .down with
    schemes := (Vector.replicate 8 none).set 1
      (some [{ system := 0, shift := 0 }, { system := 1, shift := 0 }, { system := 2, shift := 4 }])
    weaves := (Vector.replicate 8 (Vector.replicate 4 none)).set 2 ((Vector.replicate 4 none).set 1 (some worked21))
    lines := [some 0, some 1, some 0, some 1] }

/-- "The pick at (3, 2)" (spec/03): columns 200 and 6 with the effect code 1 give a lift and none after face DOWN. -/
theorem test_worked_lifts :
    figureLift worked ((List.replicate 50 0#8).set 1 16 ++ [1]) { bank := .bankA, line := 3, step := 2, rep := 5 } 0 601
        .point 1000 = true ∧
      figureLift worked ((List.replicate 50 0#8).set 1 16 ++ [1]) { bank := .bankA, line := 3, step := 2, rep := 5 } 0
        601 .point 6 = false := by decide

/-- "A repeat walk through a swap and its undo" (spec/02), steps 4, 9: the swap-marked latch retires A and an undo brings
it back. -/
theorem test_swap_commits :
    let t := after (.encoderCount .forward)
      (withSlot (.ready (frameOf { bank := .bankB, line := 0, step := 0, rep := 0 } true))
        (atOffset 1023 (atPick 1 1 5 woven)))
    t.pick.position = some { bank := .bankB, line := 0, step := 0, rep := 0 } ∧ t.store.bankA.state = .retired ∧
      t.store.bankB.state = .weaving ∧ t.loom.flags.getLsbD 3 = true ∧ t.pick.counter = 1 := by decide

/-- Bank A weaves at (0, 0, 0) beside B RETIRED at (1, 1, 5). -/
def beforeUndo : State :=
  { woven with
    pick := { woven.pick with position := some (posA 0 0 0) }
    store := { woven.store with
      bankB :=
        { state := .retired, closeResult := .ok
          record := some { cloth 8 2 with retained := some { line := 1, step := 1, rep := 5 } } } } }

theorem test_undo :
    let t := after (.encoderCount .backward) (atOffset (-7) beforeUndo)
    t.pick.position = some { bank := .bankB, line := 1, step := 1, rep := 5 } ∧ t.store.bankA.state = .armed ∧
      t.store.bankB.state = .weaving ∧ t.shaft.offset = 1016 := by decide

/-- "A swap refused" (spec/02): the ARMED bank is too narrow and becomes READY. -/
theorem test_swap_refused :
    let t := after (.encoderCount .forward)
      (atOffset 63 (atPick 1 1 5
        { woven with harness := { woven.harness with live := { twoHooks with
            sections := (Vector.replicate 16 none).set 0
              (some { first := 0, count := 2, kind := .figure 0 9 .straight }) } } }))
    t.store.bankB.state = .ready ∧ t.loom.flags.getLsbD 4 = true ∧ t.design.flags.getLsbD 3 = true := by decide

/-- Step 8 of "loading the next article" (spec/08): WRITE LINE into a full queue is BUSY. -/
def fullQueue : State :=
  { banks .weaving .opened woven with
    store := { (banks .weaving .opened woven).store with
      queue := List.replicate 4 { bank := .bankB, line := 0, scheme := 0, cells := [0, 0], written := 0 } } }

theorem test_write_line_busy :
    (after (.writeLine .design [1, 0, 0, 0, 9, 9]) fullQueue).design.reply = some [3, 0, 0, 0] := by decide

/-- DEFINE WEAVE with a width and height of 0 and a grid: only an empty grid is exempt, so the width is RANGE (R157). -/
theorem test_define_weave_blank_grid :
    (after (.defineWeave .design [1, 0, 0, 0, 0, 1]) (banks .weaving .opened woven)).design.refusal =
      some { code := 0x43, reason := .range, detail := .number 3 } := by decide

/-- A shadow with no hooks and a used slot fails the table of R135 with BEYOND HOOKS (R128, log 34). -/
theorem test_no_hooks_beyond_hooks :
    ({ HarnessTable.empty with sections := twoHooks.sections }).failure none = some (0, .beyondHooks) := by decide

/-! ## Witnesses: states and operands that meet the hypotheses of each statement, each clause at its boundaries -/

/-- A state with its still timer at a value. -/
def still (n : Option Nat) (s : State) : State := { s with shaft := { s.shaft with stillTimer := n } }

/-- A state with its standstill timer at a value. -/
def standstill (x : StandstillTimer) (st : StandstillStage) (s : State) : State :=
  { s with harness := { s.harness with timer := x, stage := st } }

/-- A state with the angle at a value. -/
def atAngle (a : Nat) (s : State) : State := { s with shaft := { s.shaft with angle := a } }

/-- A link in a phase. -/
def inPhase (k : Link) (x : Phase) (s : State) : State := s.setLink k { s.link k with phase := x }

/-- The shaft in step with A_L = 40: d the offset of the angle. -/
def inStep (a : Nat) (d : Int) : State :=
  atAngle a (atOffset d { woven with shaft := { woven.shaft with timing := { Timing.default with latchAngle := 40 } } })

/-- The machine while a reset is applied. -/
def inReset : State := { State.reset with inReset := true }

/-- A fault record. -/
def aFault : FaultRecord :=
  { kind := .shaftLost, cause := .illegalStep, counter := 0, position := none, angle := 0, laterCount := 255,
    laterKinds := .empty }

/-- A state whose record holds a fault. -/
def faulty (s : State) : State := { s with pick := { s.pick with fault := some aFault, stopRequest := true } }

theorem witness_StepTakesFrontCommand : ({ State.reset with pending := [.index, .illegalStep] } : State).pending =
    .index :: [.illegalStep] := rfl

theorem witness_IdleStepIsOneMicrosecond :
    inReset.pending = [] ∧ inReset.wires = [] ∧ woven.wires = [] ∧ inReset.inReset = true ∧ woven.pending = [] ∧ woven.inReset = false ∧
      woven.shaft.stillTimer = none ∧ (still (some 2) woven).shaft.stillTimer = some 2 ∧
      (still (some 1) woven).shaft.stillTimer = some 1 ∧ woven.harness.timer = .stopped ∧
      (standstill .stoppedByT2 .hold woven).harness.timer = .stoppedByT2 ∧
      (standstill (.toFirst 2) .run woven).harness.timer = .toFirst 2 ∧
      (standstill (.toFirst 1) .run woven).harness.timer = .toFirst 1 ∧
      (standstill (.toSecond 2) .hold woven).harness.timer = .toSecond 2 ∧
      (standstill (.toSecond 1) .hold woven).harness.timer = .toSecond 1 := by decide

theorem witness_CountMovesAngleAndMotion : woven.inReset = false ∧ State.reset.inReset = false := by decide

theorem witness_CountsAndTheCycleOffset :
    unreferenced.inReset = false ∧ unreferenced.shaft.reference ≠ .referenced ∧ lost.inReset = false ∧
      lost.shaft.reference ≠ .referenced ∧ lost.shaft.reference = .lost ∧
      ∀ d ∈ [(-7 : Int), 0, 1022, 1023], (atOffset d woven).inReset = false ∧
        (atOffset d woven).shaft.reference = .referenced ∧ 2 ≤ (atOffset d woven).shaft.timing.backOff ∧
        (atOffset d woven).shaft.timing.backOff ≤ 32 ∧
        -((atOffset d woven).shaft.timing.backOff : Int) < (atOffset d woven).shaft.offset ∧
        (atOffset d woven).shaft.offset ≤ 1023 := by decide

/-- The woven state with a FIGURE section that reaches beyond the width of both articles. -/
def narrow : State :=
  { woven with
    harness := { woven.harness with
      live := { twoHooks with
        sections := (Vector.replicate 16 none).set 0
          (some { first := 0, count := 2, kind := .figure 0 9 .straight }) } } }

/-- The woven state at a forward latch with a READY frame of the next pick. -/
def readyAtLatch : State := withSlot (.ready (frameOf (posA 1 0 0) false)) (atOffset 1023 woven)

theorem witness_ForwardLatchMeasuresSpeedAndSlack :
    (∀ d, (atOffset 1023 woven).frame.slot ≠ .ready d) ∧ readyAtLatch.AtForwardLatch ∧
      readyAtLatch.pick.engine = .weaving ∧ readyAtLatch.frame.slot = .ready (frameOf (posA 1 0 0) false) ∧ readyAtLatch.shaft.timing.frameStart ≠ 0 ∧
      woven.listens .loom = true ∧ (atOffset 1023 woven).AtForwardLatch ∧
      (atOffset 1023 State.reset).pick.engine ≠ .weaving :=
  ⟨fun _ h => (by cases h), by decide⟩

theorem witness_IllegalStepIsNoCount :
    woven.inReset = false ∧ woven.shaft.reference = .referenced ∧ unreferenced.inReset = false ∧
      unreferenced.shaft.reference ≠ .referenced := by decide

theorem witness_IndexReferencesAndChecks :
    unreferenced.inReset = false ∧ unreferenced.shaft.reference = .unreferenced ∧
      unreferenced.frame.owed = some .swap ∧ unreferenced.pick.position = some (posA 0 1 0) ∧
      unreferenced.harness.live.hooks ≠ 0 ∧ State.reset.frame.owed = none ∧
      (∀ a ∈ [0, 2, 3, 1021, 1022, 1023], (atAngle a woven).inReset = false ∧
        (atAngle a woven).shaft.reference = .referenced ∧ (atAngle a woven).shaft.angle ≤ 1023 ∧
        (atAngle a woven).shaft.timing.tolerance ≤ 7 ∧ (atAngle a woven).shaft.angle = a) ∧
      woven.shaft.timing.tolerance = 2 ∧ (inStep 0 984).shaft.timing.Acceptable ∧
      ∀ x ∈ [(0, (984 : Int), (1 : Int)), (2, 986, 1), (1022, 982, 0), (1023, 983, 0)],
        (inStep x.1 x.2.1).shaft.reference = .referenced ∧ (inStep x.1 x.2.1).shaft.timing.backOff = 8 ∧
          (inStep x.1 x.2.1).shaft.offset = (inStep x.1 x.2.1).shaft.angle - 40 + 1024 * x.2.2 := by
  simp only [Timing.Acceptable, inWindow]
  decide

theorem witness_ShaftLossReachesEveryBlock :
    woven.inReset = false ∧ woven.shaft.reference = .referenced ∧ woven.pick.fault = none ∧ woven.StopFollows ∧
      woven.pick.engine = .weaving ∧ (faulty woven).pick.fault = some aFault ∧ (faulty woven).StopFollows ∧
      (∀ a ∈ [3, 1021], woven.shaft.timing.tolerance < (atAngle a woven).shaft.angle ∧
        (atAngle a woven).shaft.angle < 1024 - woven.shaft.timing.tolerance) ∧
      (atOffset 0 { State.reset with shaft := woven.shaft }).pick.engine = .noArticle ∧ woven.DriversFollow ∧
      woven.harness.drive.policy = .hold ∧
      ({ woven with harness := { woven.harness with drive := { woven.harness.drive with policy := .release } } } :
        State).harness.drive.policy = .release := by decide

theorem witness_TimerExpiries :
    (still (some 1) woven).shaft.stillTimer = some 1 ∧ woven.shaft.stillTimer = none ∧
      (standstill (.toFirst 1) .run woven).harness.timer = .toFirst 1 ∧
      (standstill (.toSecond 1) .hold woven).harness.timer = .toSecond 1 ∧
      (∀ n, woven.harness.timer ≠ .toFirst n) ∧ ∀ n, woven.harness.timer ≠ .toSecond n := by
  refine ⟨by decide, by decide, by decide, by decide, ?_, ?_⟩ <;> intro n h <;> cases h

theorem witness_ReleaseInputChangeRaisesEvent :
    inReset.inReset = true ∧ woven.inReset = false ∧ woven.harness.ra = false ∧ woven.harness.ra ≠ true := by decide

/-- A READY frame at a forward latch from a pick of bank A. -/
def latching (d : Descriptor) (line step : Nat) : State := withSlot (.ready d) (atOffset 1023 (atPick line step 65535 woven))

/-- The swap-marked frame of bank B. -/
def swapFrame : Descriptor := frameOf { bank := .bankB, line := 0, step := 0, rep := 0 } true

theorem witness_ForwardLatchTakesReadyFrame :
    (∀ w ∈ [latching (frameOf (posA 0 1 0) false) 0 0, latching (frameOf (posA 1 0 0) false) 0 1,
        latching (frameOf (posA 0 0 1) false) 1 1, latching swapFrame 1 1],
      w.AtForwardLatch ∧ w.pick.engine = .weaving ∧ w.frame.slot.isReady = true ∧ w.shaft.timing.frameStart ≠ 0 ∧
        w.article .bankA = cloth 8 2) ∧
      (latching swapFrame 1 1).pick.position = some (posA 1 1 65535) ∧ 0 + 1 < (cloth 8 2).len 0 ∧
      (cloth 8 2).len 0 ≤ 1 + 1 ∧ 0 + 1 < (cloth 8 2).height ∧ (cloth 8 2).len 1 ≤ 1 + 1 ∧ (cloth 8 2).height ≤ 1 + 1 ∧
      swapFrame.swap = true ∧ { swapFrame with violation := true }.violation = true := by decide

/-- A state whose float guard has a mode, two limits and one committed state for hooks 0 and 1. -/
def guarded (m : GuardMode) (up down : Nat) (r : FloatRun) (s : State) : State :=
  { s with frame := { s.frame with guard := { mode := m, up := up, down := down }, committed := [r, r] } }

/-- Hook 1 of the two hooks is a FIGURE hook, and hook 2 lies beyond them. -/
theorem figureHook_twoHooks : twoHooks.FigureHook 1 ∧ twoHooks.sectionAt 2 = none ∧ twoHooks.hooks = 2 :=
  ⟨⟨{ first := 0, count := 2, kind := .figure 0 2 .straight }, 0, 2, .straight, by decide, rfl⟩, by decide, by decide⟩

/-- The commit of R79: hook 1 of a frame that lifts it, with a run below its cap, at it, at the cap of limit 0, and of the
other sense; hook 2 lies beyond the hooks. The record of a violation may be empty or held. -/
theorem witness_commit_of_ForwardLatch :
    (∀ x ∈ [(3, Sense.up, 2), (3, .up, 3), (0, .up, 64), (3, .down, 64), (3, .none, 0)],
      let w := guarded .bind x.1 0 { sense := x.2.1, run := x.2.2 } readyAtLatch
      w.AtForwardLatch ∧ w.frame.guard.mode ≠ .off ∧ w.pick.engine = .weaving ∧ w.frame.slot.isReady = true ∧
        w.frame.committed.getD 1 { sense := .none, run := 0 } = { sense := x.2.1, run := x.2.2 }) ∧
      hookLift ((Vector.replicate 8 none).set 0 (some [false, true])) twoHooks 1 = true ∧
      hookLift readyAtLatch.frame.staged twoHooks 1 = false ∧ readyAtLatch.harness.live = twoHooks ∧
      (frameOf (posA 1 0 0) false).level = false ∧ (frameOf (posA 1 0 0) false).swap = false ∧
      readyAtLatch.pick.fault = none ∧ (faulty readyAtLatch).pick.fault = some aFault ∧
      { aFault with laterCount := 254 }.laterCount + 1 = 255 ∧ readyAtLatch.shaft.timing.weftSelect ≠ 0 := by decide

/-- R79 at its boundaries, in BIND with an UP limit of 3: a run of 2 becomes 3, a run of 3 stays, another sense starts
again at 1; with limit 0 the cap is 64. -/
theorem test_commit_runs :
    let latch (up : Nat) (r : FloatRun) :=
      (after (.encoderCount .forward) (guarded .bind up 0 r { readyAtLatch with
        frame := { readyAtLatch.frame with
          staged := (Vector.replicate 8 none).set 0 (some [true, true]) } })).frame.committed.map (·.run)
    latch 3 { sense := .up, run := 2 } = [3, 3] ∧ latch 3 { sense := .up, run := 3 } = [3, 3] ∧
      latch 3 { sense := .down, run := 9 } = [1, 1] ∧ latch 0 { sense := .up, run := 63 } = [64, 64] ∧
      latch 0 { sense := .up, run := 64 } = [64, 64] := by decide

/-- A forward latch from the last pick of the repeat with a slot. -/
def lateAt (x : Slot) (s : State) : State := withSlot x (atOffset 1023 (atPick 1 1 65535 s))

/-- The slots a LATE latch can find: none, a frame that swaps, one that does not, and a re-form. -/
def lateSlots : List Slot :=
  [.empty, .assembling swapFrame noGuard .shifting, assembling .forward (posA 0 0 1) .shifting,
    assembling (.reform .step) (posA 1 1 0) .shifting]

theorem witness_LateLatchKeepsTheShed :
    (∀ d, (lateAt .empty woven).frame.slot ≠ .ready d) ∧
      (∀ x ∈ lateSlots, (lateAt x woven).AtForwardLatch ∧ (lateAt x woven).pick.engine = .weaving ∧
        (lateAt x woven).frame.slot.isReady = false ∧ (lateAt x woven).pick.position = some (posA 1 1 65535)) ∧
      (atOffset 1023 woven).AtForwardLatch ∧ (atOffset 1023 woven).pick.position = some (posA 0 1 0) ∧
      (cloth 8 2).len 0 ≤ 1 + 1 ∧ 0 + 1 < (cloth 8 2).height ∧ (cloth 8 2).len 1 ≤ 1 + 1 ∧
      (cloth 8 2).height ≤ 1 + 1 ∧ lateSlots.map Slot.isReform = [false, false, false, true] ∧ swapFrame.swap = true ∧
      (frameOf (posA 0 0 1) false).swap = false ∧ woven.shaft.timing.frameStart ≠ 0 :=
  ⟨fun _ h => (by cases h), by decide⟩

/-- The bank decision of a LATE latch at the wrap, and its fault record, empty and held. -/
theorem witness_wrap_of_LateLatch :
    woven.store.bankB.state = .armed ∧ woven.fits .bankB = true ∧
      (banks .weaving .ready woven).store.bankB.state ≠ .armed ∧ narrow.fits .bankB = false ∧
      narrow.store.bankB.state = .armed ∧ woven.pick.fault = none ∧
      (faulty (atOffset 1023 woven)).pick.fault = some aFault ∧ (faulty (atOffset 1023 woven)).StopFollows := by decide

theorem witness_ReverseLatchStepsBack :
    (atOffset (-7) woven).AtReverseLatch ∧ (atOffset (-7) woven).pick.engine = .weaving ∧
      (atOffset (-7) woven).pick.position = some (posA 0 1 0) ∧ (posA 0 1 0).step ≠ 0 ∧
      (atPick 1 0 0 woven).pick.position = some (posA 1 0 0) ∧ (posA 1 0 0).line ≠ 0 ∧ (posA 0 0 1).rep ≠ 0 ∧
      woven.store.bankB.state ≠ .retired ∧ (cloth 8 2).len ((cloth 8 2).height - 1) - 1 = 1 ∧
      woven.harness.live.hooks ≠ 0 ∧ (atOffset (-7) lost).pick.engine ≠ .weaving ∧
      (atOffset (-7) { State.reset with shaft := woven.shaft }).AtReverseLatch := by decide

theorem witness_ReverseLatchUndoesSwap :
    (atOffset (-7) beforeUndo).AtReverseLatch ∧ beforeUndo.pick.engine = .weaving ∧
      beforeUndo.pick.position = some (posA 0 0 0) ∧ (beforeUndo.bank .bankB).state = .retired ∧
      ((beforeUndo.bank .bankB).record.bind (·.retained)) = some { line := 1, step := 1, rep := 5 } ∧
      beforeUndo.harness.live.hooks ≠ 0 ∧ beforeUndo.fits .bankB = true ∧
      ({ beforeUndo with harness := narrow.harness } : State).fits .bankB = false := by
  decide

/-- With the port free and nothing waiting, the port law holds. -/
theorem portLaw_of_idle {s : State} (hp : s.store.port = none) (hd : s.due = none) : s.PortLaw := by
  refine ⟨fun _ => hd, ?_⟩
  intro b h
  rw [hp] at h
  cases h

/-- Woven with every feeder marked out. -/
def noFeeder (s : State) : State := { s with frame := { s.frame with available := Vector.replicate 8 false } }

theorem witness_FrameStartCrossingStartsForwardFrame :
    (atOffset 63 woven).PortLaw ∧ (atOffset 63 woven).inReset = false ∧ (atOffset 63 woven).shaft.reference = .referenced ∧
      (atOffset 63 woven).shaft.offset + 1 = ((atOffset 63 woven).shaft.timing.frameStart : Int) ∧
      woven.shaft.timing.frameStart ≤ 1023 ∧ woven.pick.position = some (posA 0 1 0) ∧
      woven.article .bankA = cloth 8 2 ∧ woven.frame.slot = .empty ∧ woven.pick.engine = .weaving ∧
      readyAtLatch.frame.slot ≠ .empty ∧ woven.store.port = none ∧
      woven.shaft.timing.weftSelect ≠ woven.shaft.timing.frameStart ∧ woven.pick.fault = none ∧
      (resolveFeeder (some { primary := 0, alternate := some 1, mode := .alternate }) .primaryNext
        (noFeeder woven).frame.available).1 = none ∧ (faulty woven).pick.fault = some aFault ∧
      0 + 1 < (cloth 8 2).len 0 ∧ (cloth 8 2).len 1 ≤ 1 + 1 ∧ (cloth 8 2).height ≤ 1 + 1 ∧
      (banks .weaving .ready woven).store.bankB.state ≠ .armed ∧ (woven.bank .bankB).state = .armed ∧
      woven.fits .bankB = true ∧ narrow.fits .bankB = false ∧ (narrow.bank .bankB).state = .armed :=
  ⟨portLaw_of_idle rfl rfl, by decide⟩

/-- The woven state with all four marks at an offset. -/
def marksAt (m : Nat) (s : State) : State :=
  { s with
    shaft := { s.shaft with
      timing := { s.shaft.timing with frameStart := m, weftSelect := m, gateOn := m, gateOff := m } } }

/-- The clauses of the weft select mark and the weft gate, with the marks at their least and greatest offsets. -/
theorem witness_marks_of_FrameStartCrossing :
    (atOffset 159 woven).Crosses woven.shaft.timing.weftSelect ∧
      (atOffset 1023 (marksAt 0 woven)).Crosses 0 ∧ (atOffset (-1) (marksAt 0 woven)).Crosses 0 ∧
      (atOffset 1022 (marksAt 1023 woven)).Crosses 1023 ∧ (atOffset 1023 (marksAt 0 lost)).pick.engine ≠ .weaving ∧
      woven.pick.reforming = false ∧ woven.frame.pickFeeder = .noFrame ∧
      (atOffset 199 woven).Crosses woven.shaft.timing.gateOn ∧ ¬ (atOffset 199 woven).Crosses woven.shaft.timing.gateOff ∧
      (atOffset 599 woven).Crosses woven.shaft.timing.gateOff ∧
      ¬ (atOffset 1023 woven).Crosses woven.shaft.timing.gateOn := by decide

theorem witness_FrameCompletions :
    (withSlot (assembling .forward (posA 1 0 0) .shifting) woven).frame.slot =
        .assembling (frameOf (posA 1 0 0) false) noGuard .shifting ∧
      (withSlot (assembling (.reform .set) (posA 0 1 0) .shifting) woven).frame.slot =
        .assembling { frameOf (posA 0 1 0) false with kind := .reform .set } noGuard .shifting ∧
      (∀ d v, woven.frame.slot ≠ .assembling d v .shifting) ∧ woven.pick.engine = .weaving ∧
      woven.pick.position = some (posA 0 1 0) ∧ (frameOf (posA 0 1 0) false).resolved = some 0 ∧
      (noFeeder woven).frame.available[(0 : Fin 8)] = false := by
  refine ⟨rfl, rfl, ?_, rfl, rfl, rfl, rfl⟩
  intro d v h
  cases h

/-- The woven state with a burst in progress over a memory whose first 64 bytes are written. -/
def bursting (r : Requester) (dropped : Bool) (x : Slot) (rb : Readback) : State :=
  { withSlot x woven with
    store := { woven.store with
      port := some { requester := r, address := 0, data := [], dropped := dropped }, readback := rb
      memory := (List.range 64).map fun a => (a, 7#8) } }

/-- A readback of a line of a width. -/
def jobOf (w : Nat) : ReadJob := { bank := .bankA, line := 0, scheme := 0, width := w }

/-- A state whose live table has no hooks. -/
def noHooks (s : State) : State := { s with harness := { s.harness with live := HarnessTable.empty } }

theorem witness_ReadingBurstsDeliverTheirData :
    (bursting .frame true .empty .empty).store.port.isSome = true ∧
      readBytes (bursting .frame false (assembling .forward (posA 0 0 0) (.reading [])) .empty).store.memory 0 64 =
        some (List.replicate 64 7#8) ∧
      readBytes woven.store.memory 0 64 = none ∧
      (bursting .frame false (assembling .forward (posA 0 0 0) (.reading [])) .empty).frame.slot =
        .assembling (frameOf (posA 0 0 0) false) noGuard (.reading []) ∧
      ¬ (List.replicate 64 7#8).length / 64 < lineBursts 8 ∧ (List.replicate 64 7#8).length / 64 < lineBursts 257 ∧
      (cloth 257 1).width = 257 ∧ woven.harness.live.hooks ≠ 0 ∧
      (bursting .readback false .empty (.filling (jobOf 257) [])).store.readback = .filling (jobOf 257) [] ∧
      (∀ k ∈ [FrameKind.forward, .reform .set],
        (noHooks (bursting .frame false (assembling k (posA 0 0 0) (.reading [])) .empty)).frame.slot =
          .assembling { frameOf (posA 0 0 0) false with kind := k } noGuard (.reading [])) ∧
      (noHooks woven).harness.live.hooks = 0 := by
  decide

theorem witness_QueueBurstWritesItsBytes :
    ({ fullQueue with store := { fullQueue.store with
        port := some { requester := .queue, address := 0, data := [1, 2], dropped := false } } } : State).store.port =
        some { requester := .queue, address := 0, data := [1, 2], dropped := false } ∧
      fullQueue.store.queue.length = 4 ∧ (fullQueue.bank .bankB).state = .opened ∧
      ¬ 0 + 1 < ([0, 0].length + 63) / 64 ∧ 0 + 1 < ((List.replicate 65 0#8).length + 63) / 64 ∧
      ((banks .weaving .closing woven).bank .bankB).state = .closing := by decide

theorem witness_AnswerFormsTheReply :
    (Reply.refused .range (.number 0)) = .refused .range (.number 0) ∧
      ∀ reason detail, Reply.busy ≠ .refused reason detail := by
  refine ⟨rfl, ?_⟩
  intro a b h
  cases h

theorem witness_LinkChecksInOrder :
    namesCommand 0x11 = false ∧ namesCommand 0x36 = false ∧ woven.listens .loom = true ∧ woven.listens .design = true ∧
      (Instr.stepBack .design [3]).codeOf = some (.design, 0x21) ∧
      commandOffer (.stepBack .design [3]) = some (.loomOnly, 1, 1) ∧ Offer.on .loomOnly .design = false ∧
      commandOffer (.stepBack .loom []) = some (.loomOnly, 1, 1) ∧ Offer.on .loomOnly .loom = true := by decide

theorem witness_OverLongLengthAndRelease : 2064 < (2065#16).toNat ∧ woven.listens .design = true := by decide

theorem witness_BusyLinkTakesNoCommand :
    (Instr.stepBack .loom [3]).wellFormed = true ∧ (Instr.stepBack .loom [3]).codeOf = some (.loom, 0x21) ∧
      (inPhase .loom .turnaround woven).listens .loom = false ∧ (inPhase .loom .discarding woven).listens .loom = false ∧
      inReset.listens .loom = false ∧ namesCommand 0x01 = true ∧ namesCommand 0x4B = true ∧
      2064 < (2065#16).toNat ∧ (2064#16).toNat ≤ 2064 := by decide

theorem witness_RefusedAndBusyDoNothing :
    (Instr.stepBack .loom [3]).wellFormed = true ∧ (Instr.stepBack .loom [3]).codeOf = some (.loom, 0x21) ∧
      woven.listens .loom = true := by decide

theorem witness_StatusBlock :
    State.reset.listens .loom = true ∧ State.reset.pick.position = none ∧ State.reset.frame.slot = .empty := by decide

/-- The woven state with a note in a link's slot. -/
def noted (k : Link) : State := woven.setLink k { woven.link k with noteSlot := some 5#8 }

theorem witness_EventAndNoteCommands :
    woven.listens .loom = true ∧ ((noted .design).link (otherLink .loom)).noteSlot.isSome = true ∧
      (noted .design).listens .loom = true ∧ (woven.link (otherLink .loom)).noteSlot = none ∧
      ((noted .loom).link .loom).noteSlot = some 5#8 ∧ (woven.link .loom).noteSlot = none := by decide

/-- The woven state with a shadow held by a link. -/
def claimed (k : Link) : State :=
  { woven with harness := { woven.harness with claim := some { owner := k, shadow := twoHooks } } }

/-- READ ARTICLE of a cloth whose weave (0, 3) and the weaves of system 7 are undefined, refused at (0, 3): byte 16 holds
systems 0 and 1, byte 13 systems 6 and 7 (R204). -/
theorem test_read_article_weaves :
    let a := { cloth 8 2 with
      weaves := ((cloth 8 2).weaves.set 0 ((Vector.replicate 4 (some plain)).set 3 none)).set 7 (Vector.replicate 4 none) }
    (readArticleBytes { state := .opened, record := some a, closeResult := .weaveUndefined 0 3 }).take 5 =
        [1, 4, 0, 0, 3] ∧
      ((readArticleBytes { state := .opened, record := some a, closeResult := .ok }).drop 13).take 4 =
        [0x0F, 0xFF, 0xFF, 0xF7] := by decide

/-- A selection latched and none, a frame latched and none, a fault without a position. -/
theorem witness_replies_of_ReadCommands :
    (∀ c : Fin 8, woven.frame.latched[c] = none) ∧ woven.frame.latchedDesc = none ∧
      (aFault.position = none ∧ (faulty woven).pick.fault = some aFault) ∧
      ({ woven with frame := { woven.frame with latched := Vector.replicate 8 (some []) } } : State).frame.latched[
        (7 : Fin 8)] ≠ none := by decide

theorem witness_ReadCommandsOnlyRead :
    woven.listens .loom = true ∧ woven.listens .design = true ∧ woven.pick.fault = none ∧
      (faulty woven).pick.fault = some aFault ∧ (claimed .loom).shadowOf .loom = some twoHooks ∧
      woven.shadowOf .loom = none ∧ wordAt [0x2F, 0xFF] 0 ≤ 12287 ∧ 12287 < wordAt [0x30, 0x00] 0 ∧
      ({ woven with store := { woven.store with readback := .full (jobOf 8) [1, 2] } } : State).store.readback =
        .full (jobOf 8) [1, 2] ∧
      woven.store.readback = .empty ∧ 1 < (2#8).toNat ∧
      (after (.encoderCount .forward) readyAtLatch).pick.history.length = 1 ∧
      ((after .illegalStep woven).pick.fault.map (·.position)) = some (some (posA 0 1 0)) ∧
      (State.reset.bank .bankA).state = .empty ∧ (woven.bank .bankA).state ≠ .empty ∧
      (woven.bank .bankA).record = some (cloth 8 2) ∧ (woven.bank .bankA).closeResult = .ok ∧
      (after (.encoderCount .forward) readyAtLatch).frame.latchedDesc = some (frameOf (posA 1 0 0) false) := by decide

/-- The woven state with the KEEP lock set. -/
def keepSet (s : State) : State := { s with harness := { s.harness with keep := true } }

theorem witness_HarnessClaimAndLockCommands :
    (claimed .loom).listens .loom = true ∧ ((claimed .loom).shadowOf .loom).isSome = true ∧
      woven.shadowOf .loom = none ∧ ((keepSet woven).harness.keep || (keepSet woven).harness.fixed) = true ∧
      (keepSet woven).shadowOf .loom = none ∧ (woven.harness.keep || woven.harness.fixed) = false ∧
      (claimed .design).harness.claim.isSome = true ∧ (claimed .design).shadowOf .loom = none ∧
      woven.harness.claim = none := by decide

theorem witness_ShadowEdits :
    woven.listens .loom = true ∧ woven.shadowOf .loom = none ∧ (claimed .loom).listens .loom = true ∧
      (claimed .loom).shadowOf .loom = some twoHooks ∧
      7 < byteAt [8, 0, 0, 0] 0 ∧ 1536 < wordAt [7, 6, 1, 0] 1 ∧ byteAt [7, 6, 0, 0] 0 = (7 : Fin 8).val ∧
      wordAt [7, 6, 0, 0] 1 ≤ 1536 ∧
      15 < byteAt [16, 0, 0, 0, 0, 0, 0, 0, 0, 0, 0] 0 ∧ 3 < byteAt [15, 4, 0, 0, 0, 0, 0, 0, 0, 0, 0] 1 ∧
      wordAt [15, 1, 0x2F, 0xFF, 0, 1, 0x1F, 0xFF, 0, 1, 1] 2 +
        wordAt [15, 1, 0x2F, 0xFF, 0, 1, 0x1F, 0xFF, 0, 1, 1] 4 - 1 ≤ 12287 ∧
      wordAt [15, 1, 0x2F, 0xFF, 0, 1, 0x1F, 0xFF, 0, 1, 1] 6 +
        wordAt [15, 1, 0x2F, 0xFF, 0, 1, 0x1F, 0xFF, 0, 1, 1] 8 - 1 ≤ 8191 ∧
      byteAt [15, 2, 0x2F, 0xFF, 0, 1, 0, 0, 0, 0, 3] 10 = (3 : Fin 4).val ∧
      byteAt [15, 3, 0, 0, 0, 1, 0, 0, 0, 0, 0] 1 = 3 ∧ 12287 < wordAt [15, 1, 0x30, 0x00, 0, 1, 0, 0, 0, 1, 0] 2 ∧
      wordAt [15, 1, 0, 0, 0, 0, 0, 0, 0, 1, 0] 4 = 0 ∧ 8191 < wordAt [15, 1, 0, 0, 0, 1, 0x20, 0, 0, 1, 0] 6 ∧
      8191 < wordAt [15, 1, 0, 0, 0, 1, 0x1F, 0xFF, 0, 2, 0] 6 + wordAt [15, 1, 0, 0, 0, 1, 0x1F, 0xFF, 0, 2, 0] 8 - 1 ∧
      1 < byteAt [15, 1, 0, 0, 0, 1, 0, 0, 0, 1, 2] 10 ∧ 3 < byteAt [15, 2, 0, 0, 0, 1, 0, 0, 0, 0, 4] 10 ∧
      byteAt [3, 0, 1] 2 ≠ 0 ∧ 16 < byteAt [3, 17, 0] 1 ∧ byteAt [3, 16, 0] 2 = 0 ∧ 16 < byteAt [3, 16, 17] 2 ∧
      [3, 0, 0, 1].length ≠ 3 ∧
      12287 < wordAt [15, 3, 0x2F, 0xFF, 0, 2, 0, 0, 0, 0, 0] 2 + wordAt [15, 3, 0x2F, 0xFF, 0, 2, 0, 0, 0, 0, 0] 4 - 1 ∧
      3 < byteAt [4, 0, 0] 0 ∧ byteAt [3, 0, 0] 0 = (3 : Fin 4).val ∧
      ([3, 16, 16] ++ List.replicate 32 0#8).length = 3 + 16 * ((16 + 7) / 8) ∧ [3, 1, 1].length ≠ 3 + 1 * ((1 + 7) / 8) := by
  decide

/-- A shadow whose slot 15 reaches one hook beyond the head. -/
def badShadow : HarnessTable :=
  { twoHooks with
    sections := (Vector.replicate 16 none).set 15 (some { first := 2, count := 1, kind := .dead }) }

theorem witness_CommitHarnessChecksAndEffects :
    woven.listens .loom = true ∧ woven.shadowOf .loom = none ∧ (claimed .loom).shadowOf .loom = some twoHooks ∧
      ((keepSet (claimed .loom)).harness.keep || (keepSet (claimed .loom)).harness.fixed) = true ∧
      (moving (claimed .loom)).shaft.motion ≠ .still ∧ (claimed .loom).pick.engine ≠ .noArticle ∧
      twoHooks.hooks ≠ 0 ∧ (claimed .loom).shaft.reference = .referenced ∧
      (claimed .loom).pick.position.map (fun p => ((claimed .loom).article p.bank).width) = some 8 ∧
      woven.frame.latched[(0 : Fin 8)] = none ∧
      (after .reformCompletion (withSlot (assembling (.reform .step) (posA 0 1 0) .shifting) { woven with
        frame := { woven.frame with staged := Vector.replicate 8 (some [true]) } })).frame.latched[(0 : Fin 8)] =
        some [true] := by decide

/-- The one section of the two hooks stands in slot 0. -/
theorem twoHooks_sections : ∀ i : Fin 16,
    (i = 0 ∧ twoHooks.sections[i] = some { first := 0, count := 2, kind := .figure 0 2 .straight }) ∨
      twoHooks.sections[i] = none := by decide

/-- A table whose slots 0 and 1 hold two sections. -/
def twoSections (x y : Section) : HarnessTable :=
  { twoHooks with sections := ((Vector.replicate 16 none).set 0 (some x)).set 1 (some y) }

/-- No slot below 15 of that shadow is used. -/
theorem badShadow_sections : ∀ j : Fin 16, j < 15 → badShadow.sections[j] = none := by decide

/-- The validation of R135: the two hooks pass every test at width 2, the least that does; at width 1 slot 0 is TOO WIDE;
slot 15 reaches hook 2, one beyond; slot 1 shares a hook with slot 0, or names an undefined weave. -/
theorem witness_validation_of_CommitHarness :
    (∀ i c, ¬ twoHooks.Fails (some 2) i c) ∧ twoHooks.Fails (some 1) 0 .tooWide ∧
      badShadow.Fails none 15 .beyondHooks ∧ (∀ j, j < 15 → ∀ c, ¬ badShadow.Fails none j c) ∧
      (twoSections { first := 0, count := 1, kind := .dead } { first := 0, count := 2, kind := .selvage 0 }).Fails none 1
        .overlap ∧
      (twoSections { first := 0, count := 1, kind := .dead } { first := 1, count := 1, kind := .selvage 0 }).Fails none 1
        .selvageUndefined := by
  refine ⟨?_, ⟨_, rfl, ?_⟩, ⟨_, rfl, .inl ⟨by decide, rfl⟩⟩, ?_, ⟨_, rfl, .inr (.inl ⟨by decide, by decide, rfl⟩)⟩,
    ⟨_, rfl, .inr (.inr (.inl ⟨by decide, by decide, by decide, rfl⟩))⟩⟩
  · rintro i c ⟨x, hx, h⟩
    obtain ⟨rfl, e⟩ | e := twoHooks_sections i <;> cases e.symm.trans hx
    have wide : Section.Narrow { first := 0, count := 2, kind := .figure 0 2 .straight } (some 2) := by
      rintro W c0 w m ⟨⟩ ⟨⟩
      decide
    rcases h with h | h | h | h
    · exact h.1 (by decide)
    · exact h.2.1 (by decide)
    · exact h.2.2.1 (by decide)
    · exact h.2.2.2.1 wide
  · exact .inr (.inr (.inr ⟨by decide, by decide, by decide, fun h => absurd (h 1 0 2 .straight rfl rfl) (by decide), rfl⟩))
  · rintro j hj c ⟨x, hx, -⟩
    cases (badShadow_sections j hj).symm.trans hx

theorem witness_ClearFaultAndResync :
    woven.listens .loom = true ∧ State.reset.listens .loom = true ∧ State.reset.pick.engine = .noArticle ∧
      woven.pick.engine = .weaving ∧ lost.listens .loom = true ∧ lost.pick.engine = .unsynchronised ∧
      lost.shaft.motion = .still ∧ (moving lost).shaft.motion ≠ .still := by decide

theorem witness_PositionCommandsRefusedInOrder :
    State.reset.listens .loom = true ∧ (Instr.stepBack .loom [1]).codeOf = some (.loom, 0x21) ∧
      (Instr.setPosition .loom [0, 0, 0, 0, 0]).codeOf = some (.loom, 0x23) ∧
      (Instr.unload .loom []).codeOf = some (.loom, 0x27) ∧ State.reset.pick.engine = .noArticle ∧
      lost.pick.engine = .unsynchronised ∧ (moving woven).pick.engine = .weaving ∧
      (moving woven).shaft.motion ≠ .still := by decide

theorem witness_StepCommandsMoveThePosition :
    (∀ x ∈ [(0, 1), (1, 1), (64, 64), (65, 64), (255, 64)],
      (x.2 : Nat) = max 1 (min 64 (BitVec.ofNat 8 x.1).toNat)) ∧
      woven.listens .loom = true ∧ woven.Movable ∧ woven.pick.position = some (posA 0 1 0) ∧
      woven.pick.reforming = false ∧ (posA 0 1 0).step + 1 ≥ (woven.article .bankA).len 0 ∧
      (posA 0 0 0).step + 1 < (woven.article .bankA).len 0 ∧ unreferenced.Movable ∧
      unreferenced.shaft.reference ≠ .referenced ∧ woven.harness.live.hooks ≠ 0 ∧
      ({ woven with pick := { woven.pick with reforming := true } } : State).pick.reforming = true := by decide

/-- One pick beyond the line: the line change, the wrap with the other bank ARMED and fitting, ARMED and too narrow, or
not ARMED; one pick back likewise, with the other bank RETIRED at (0, 0, 0), fitting or too narrow. -/
theorem witness_single_pick_of_StepCommands :
    (0 + 1 < (cloth 8 2).height ∧ (cloth 8 2).len 0 ≤ 1 + 1) ∧ ((cloth 8 2).height ≤ 1 + 1 ∧ (cloth 8 2).len 1 ≤ 1 + 1) ∧
      (∀ w ∈ [atPick 1 1 65535 woven, atPick 1 1 0 narrow, atPick 1 1 0 (banks .weaving .ready woven),
          atPick 1 0 0 woven, atPick 0 0 1 woven, atPick 0 0 0 woven, beforeUndo,
          { beforeUndo with harness := narrow.harness }],
        w.listens .loom = true ∧ w.Movable ∧ w.pick.reforming = false ∧ w.pick.position.isSome = true ∧
          w.article .bankA = cloth 8 2 ∧ w.harness.live.hooks ≠ 0) ∧
      (woven.bank .bankB).state = .armed ∧ woven.fits .bankB = true ∧ (narrow.bank .bankB).state = .armed ∧
      narrow.fits .bankB = false ∧ (beforeUndo.bank .bankB).state = .retired ∧ beforeUndo.fits .bankB = true ∧
      ({ beforeUndo with harness := narrow.harness } : State).fits .bankB = false ∧
      ((beforeUndo.bank .bankB).record.bind (·.retained)) = some { line := 1, step := 1, rep := 5 } := by decide

/-- The same walk by STEP FORWARD 1 and STEP BACK 1 (R24, R25, R36, R40). -/
theorem test_single_steps :
    (after (.stepForward .loom [1]) woven).pick.position = some (posA 1 0 0) ∧
      (after (.stepForward .loom [1]) (atPick 1 1 65535 woven)).pick.position =
        some { bank := .bankB, line := 0, step := 0, rep := 0 } ∧
      (after (.stepForward .loom [1]) (atPick 1 1 65535 narrow)).pick.position = some (posA 0 0 65535) ∧
      (after (.stepBack .loom [1]) (atPick 1 0 0 woven)).pick.position = some (posA 0 1 0) ∧
      (after (.stepBack .loom [1]) beforeUndo).pick.position =
        some { bank := .bankB, line := 1, step := 1, rep := 5 } := by decide

theorem witness_SetPositionMovesThePosition :
    woven.listens .loom = true ∧ woven.Movable ∧ woven.pick.position = some (posA 0 1 0) ∧
      (woven.article .bankA).height ≤ wordAt [0, 2, 0, 0, 0] 0 ∧ wordAt [0, 1, 2, 0, 0] 0 < (woven.article .bankA).height ∧
      (woven.article .bankA).len 1 ≤ byteAt [0, 1, 2, 0, 0] 2 ∧
      (woven.article .bankA).Holds (wordAt [0, 1, 1, 255, 255] 0) (byteAt [0, 1, 1, 255, 255] 2) ∧
      unreferenced.shaft.reference ≠ .referenced ∧ woven.shaft.reference = .referenced ∧
      woven.harness.live.hooks ≠ 0 := by decide

theorem witness_PickCountAndPieceTarget :
    woven.listens .loom = true ∧ (atOffset 1023 woven).AtForwardLatch ∧ woven.pick.engine = .weaving := by decide

/-- A table whose slot 3 reaches column 8. -/
def wideTable : HarnessTable :=
  { twoHooks with
    sections := (Vector.replicate 16 none).set 3
      (some { first := 0, count := 1, kind := .figure 8 1 .straight }) }

theorem witness_SwapNowChangesTheBank :
    woven.listens .loom = true ∧ woven.Movable ∧ woven.pick.position = some (posA 0 1 0) ∧
      (woven.bank .bankB).state = .armed ∧ woven.fits .bankB = true ∧ (woven.bank .bankA).record.isSome = true ∧
      ((banks .weaving .ready woven).bank .bankB).state = .ready ∧
      ((banks .weaving .retired woven).bank .bankB).state ≠ .ready ∧
      ((banks .weaving .retired woven).bank .bankB).state ≠ .armed ∧
      wideTable.tooWide 8 = some 3 ∧
      unreferenced.shaft.reference ≠ .referenced ∧ woven.harness.live.hooks ≠ 0 := by decide

theorem witness_UnloadEndsWeaving :
    woven.listens .loom = true ∧ woven.Movable ∧ (beforeUndo.bank .bankB).state = .retired ∧ beforeUndo.Movable := by
  decide

/-- The woven state with feeder 1 at the output. -/
def feeding (e : FeederEntry) : State :=
  { woven with frame := { woven.frame with
      output := some 0, outputRecord := some { system := 0, entry := some e, resolved := some 0 } } }

theorem witness_FeederOutAndIn :
    woven.listens .loom = true ∧ (0#8).toNat = 0 ∧ 8 < (9#8).toNat ∧ (1#8).toNat = (0 : Fin 8).val + 1 ∧
      (8#8).toNat = (7 : Fin 8).val + 1 ∧ woven.frame.output ≠ some 0 ∧
      (feeding { primary := 0, alternate := some 1, mode := .single }).frame.output = some 0 ∧
      (after (.feederOut .loom [1]) (feeding { primary := 0, alternate := none, mode := .single })).frame.output =
        none ∧
      (after (.feederOut .loom [1]) (feeding { primary := 0, alternate := some 1, mode := .single })).frame.output =
        some 1 := by decide

theorem witness_LevelCommandsSetTheFlag :
    woven.listens .loom = true ∧ State.reset.listens .loom = true ∧ State.reset.pick.engine = .noArticle ∧
      unreferenced.listens .loom = true ∧ unreferenced.pick.engine ≠ .noArticle ∧
      unreferenced.shaft.reference ≠ .referenced ∧ woven.pick.position = some (posA 0 1 0) ∧
      woven.harness.live.hooks ≠ 0 := by decide

/-- Settings of SET TIMING at the ends of their ranges, and one step beyond. -/
theorem witness_SetTimingCheckedAndTaken :
    woven.listens .loom = true ∧ (moving woven).shaft.motion ≠ .still ∧ woven.shaft.motion = .still ∧
      ({ latchAngle := 40, backOff := 32, frameStart := 64, weftSelect := 975, gateOn := 0, gateOff := 992,
         tolerance := 7, stillTime := 1000 } : Timing).Acceptable ∧
      ({ latchAngle := 40, backOff := 32, frameStart := 991, weftSelect := 0, gateOn := 0, gateOff := 0,
         tolerance := 6, stillTime := 50 } : Timing).Acceptable ∧
      ¬ ({ latchAngle := 40, backOff := 32, frameStart := 992, weftSelect := 0, gateOn := 0, gateOff := 0,
           tolerance := 6, stillTime := 50 } : Timing).Acceptable ∧
      ¬ ({ latchAngle := 7, backOff := 2, frameStart := 64, weftSelect := 160, gateOn := 200, gateOff := 600,
           tolerance := 7, stillTime := 50 } : Timing).Acceptable ∧
      ¬ ({ latchAngle := 40, backOff := 2, frameStart := 64, weftSelect := 160, gateOn := 200, gateOff := 600,
           tolerance := 8, stillTime := 50 } : Timing).Acceptable := by
  refine ⟨by decide, by decide, by decide, ?_, ?_, ?_, ?_, ?_⟩ <;> simp only [Timing.Acceptable, inWindow] <;> decide

/-- SET DRIVE with slots at 3 and times at 255. -/
def driveBytes : List Byte := [255, 0, 15, 16, 3, 3, 3, 3, 3, 3, 3, 3, 3, 1, 0, 0, 255, 1]

theorem witness_SetDriveTakesAllSettings :
    woven.listens .loom = true ∧ driveBytes.length = 18 ∧ (∀ g ∈ List.range' 4 9, byteAt driveBytes g ≤ 3) ∧
      byteAt driveBytes 17 ≤ 1 ∧ 1 < byteAt (driveBytes.set 17 2) 17 ∧ 3 < byteAt (driveBytes.set 4 4) 4 ∧
      3 < byteAt (driveBytes.set 12 4) 12 ∧ (∀ g ∈ List.range' 4 8, byteAt (driveBytes.set 12 4) g ≤ 3) ∧
      (standstill (.toFirst 5) .run woven).harness.timer = .toFirst 5 ∧
      (standstill (.toSecond 5) .hold woven).harness.stage = .hold ∧
      (standstill (.toFirst 5) .hold woven).harness.timer = .toFirst 5 ∧
      (standstill .stoppedByT2 .hold woven).harness.timer = .stoppedByT2 ∧ woven.harness.timer = .stopped ∧
      woven.harness.drive.t1 ≠ 0 ∧ woven.harness.stage ≠ .release ∧ woven.pick.engine ≠ .noArticle ∧
      ({ woven with harness := { woven.harness with drive := { woven.harness.drive with t1 := 0 } } } :
        State).harness.drive.t1 = 0 ∧ min (wordAt driveBytes 13) 255 ≠ 0 ∧
      (standstill .stopped .release woven).harness.stage = .release := by decide

/-- SET DRIVE with T1 = n and T2 = m. -/
def times (n m : Byte) : Instr := .setDrive .loom [12, 8, 4, 15, 0, 0, 0, 0, 0, 0, 0, 0, 2, 0, n, 0, m, 0]

/-- R123 in HOLD: a running timer takes the new T2, and T2 = 0 stops it for good; a new T1 starts no timer that T2 = 0 had
stopped. -/
theorem test_hold_timer_by_T2 :
    (after (times 20 3) (standstill (.toFirst 5) .hold woven)).harness.timer = .toSecond 3000000 ∧
      (after (times 20 0) (standstill (.toSecond 5) .hold woven)).harness.timer = .stoppedByT2 ∧
      (after (times 20 3) (standstill .stoppedByT2 .hold
        { woven with harness := { woven.harness with drive := { woven.harness.drive with t1 := 0 } } })).harness.timer =
        .stoppedByT2 := by decide

/-- R123 in RUN: T1 = 0 stops the timer, and a new T1 starts it again. -/
theorem test_run_timer_by_T1 :
    let stopped := after (times 0 3) (standstill (.toFirst 5) .run woven)
    stopped.harness.timer = .stopped ∧ (after (times 1 3) (inPhase .loom .idle stopped)).harness.timer = .toFirst 100000 := by decide

theorem witness_SetFloatGuardClears :
    woven.listens .loom = true ∧ 2 < (3#8).toNat ∧
      (2#8).toNat = (match GuardMode.stop with | .off => 0 | .bind => 1 | .stop => 2) := by decide

theorem witness_BankByteCheckedFirst :
    (Instr.arm .design [2]).codeOf = some (.design, 0x47) ∧ commandOffer (.arm .design [2]) = some (.designOnly, 1, 1) ∧
      Offer.on .designOnly .design = true ∧ woven.listens .design = true ∧ 1 < byteAt [2] 0 ∧
      (Instr.readArticle .loom [255]).codeOf = some (.loom, 0x10) ∧
      commandOffer (.readArticle .loom [255]) = some (.both, 1, 1) ∧ 0x40 ≤ (0x47#8).toNat ∧ (0x47#8).toNat ≤ 0x4A := by
  decide

theorem witness_OpenArticleMakesANewRecord :
    woven.listens .design = true ∧ (woven.bank .bankB).state = .armed ∧ (State.reset.bank .bankB).state = .empty ∧
      (State.reset.bank .bankA).state ≠ .opened ∧ (State.reset.bank .bankA).state ≠ .closing ∧
      (0#8).toNat * 256 + (7#8).toNat < 8 ∧ 8192 < (0x20#8).toNat * 256 + (1#8).toNat ∧
      (0x20#8).toNat * 256 + (0#8).toNat = 8192 ∧ 1 < (2#8).toNat ∧
      (1#8).toNat = (match Face.down with | .up => 0 | .down => 1) ∧
      (Readback.full { jobOf 8 with bank := .bankB } []).names .bankB = true := by decide

theorem witness_ReopenAndDiscardBank :
    woven.listens .design = true ∧ (woven.bank .bankA).state = .weaving ∧ (woven.bank .bankB).state = .armed ∧
      (withSlot (.ready (frameOf { bank := .bankB, line := 0, step := 0, rep := 0 } true)) woven).swapPending = true ∧
      woven.swapPending = false ∧ (woven.bank .bankB).record = some (cloth 8 2) ∧
      ((banks .ready .empty woven).bank .bankA).state = .ready ∧ (fullQueue.bank .bankB).state = .opened ∧
      (State.reset.bank .bankA).state = .empty ∧ ((banks .ready .closing woven).bank .bankB).state = .closing := by
  decide

theorem witness_DefineCommandsEditTheRecord :
    woven.listens .design = true ∧ (woven.bank .bankB).state ≠ .opened ∧ fullQueue.listens .design = true ∧
      (fullQueue.bank .bankB).state = .opened ∧ (fullQueue.bank .bankB).record = some (cloth 8 2) ∧
      7 < (8#8).toNat ∧ 12 < (13#8).toNat ∧ (List.replicate 12 ({ system := 7, shift := 23 } : SchemeStep)).length ≤ 12 ∧
      (∀ x ∈ List.replicate 12 ({ system := 7, shift := 23 } : SchemeStep), x.shift ≤ 23) ∧ (12#8).toNat ≠ 11 ∧
      (List.replicate 72 0#8).length = (24#8).toNat * (((24#8).toNat + 7) / 8) ∧ 24 < (25#8).toNat ∧
      [0#8] ≠ [] ∧ 7 < (8#8).toNat ∧ 3 < (4#8).toNat ∧
      (8#8).toNat = (7 : Fin 8).val + 1 ∧ 8 < (9#8).toNat ∧ (8#8) ≠ (0#8) ∧
      (1#8).toNat = (match FeederMode.alternate with | .single => 0 | .alternate => 1) := by decide

/-- DEFINE SCHEME of bank B with a step count, k steps in their ranges and further bytes: its refusal (R156, R199). -/
def schemeRefusal (c k : Nat) (rest : List Byte) : Option (Reason × Detail) :=
  (after (.defineScheme .design ([1, 7, BitVec.ofNat 8 c] ++ (List.replicate k [7#8, 23#8]).flatten ++ rest))
    fullQueue).design.refusal.map fun r => (r.reason, r.detail)

theorem test_define_scheme_fields :
    schemeRefusal 12 12 [] = none ∧ schemeRefusal 12 11 [8, 24] = some (.range, .number 25) ∧
      schemeRefusal 12 11 [7, 24] = some (.range, .number 26) ∧ schemeRefusal 12 11 [7] = some (.length, .number 26) ∧
      schemeRefusal 12 11 [] = some (.length, .number 25) ∧ schemeRefusal 11 11 [8, 24] = some (.length, .number 25) ∧
      schemeRefusal 0 0 [9] = some (.length, .number 3) := by decide

/-- The steps of DEFINE SCHEME at the ends of their ranges and of the longest parameters. -/
theorem witness_steps_of_DefineScheme :
    2 * (List.replicate 11 ({ system := 7, shift := 23 } : SchemeStep)).length + 1 + [24#8].length ≤ 24 ∧
      (12#8).toNat ≤ 12 ∧ (List.replicate 11 ({ system := 7, shift := 23 } : SchemeStep)).length < (12#8).toNat ∧
      (11#8).toNat = (List.replicate 11 ({ system := 7, shift := 23 } : SchemeStep)).length ∧ 7 < (8#8).toNat ∧
      (7#8).toNat ≤ 7 ∧ 23 < (24#8).toNat := by decide

theorem witness_WriteLineChecksAndQueues :
    fullQueue.listens .design = true ∧ (woven.bank .bankB).state ≠ .opened ∧ (fullQueue.bank .bankB).state = .opened ∧
      (fullQueue.article .bankB).height ≤ (0#8).toNat * 256 + (2#8).toNat ∧
      (0#8).toNat * 256 + (1#8).toNat < (fullQueue.article .bankB).height ∧ 7 < (8#8).toNat ∧ (7#8).toNat ≤ 7 ∧
      [0#8, 0#8, 0#8].length ≠ ((fullQueue.article .bankB).width + 3) / 4 ∧
      [0#8, 0#8].length = ((fullQueue.article .bankB).width + 3) / 4 ∧ fullQueue.store.queue.length = 4 ∧
      (banks .weaving .opened woven).store.queue.length ≠ 4 ∧ woven.store.port = none ∧
      (bursting .frame false .empty .empty).store.port.isSome = true ∧
      ({ fullQueue with store := { fullQueue.store with
        readback := .filling { jobOf 8 with bank := .bankB, line := 1 } [] } } : State).store.readback =
        .filling { jobOf 8 with bank := .bankB, line := 1 } [] := by decide

theorem witness_CloseArticleValidates :
    woven.listens .design = true ∧ (woven.bank .bankB).state ≠ .opened ∧ (fullQueue.bank .bankB).state = .opened ∧
      fullQueue.store.queue ≠ [] ∧ ((banks .weaving .opened woven).bank .bankB).state = .opened ∧
      (banks .weaving .opened woven).store.queue = [] ∧ (cloth 8 2).validate = .ok ∧
      { cloth 8 2 with lines := [some 0, none] }.validate = .linesMissing 1 ∧
      { cloth 8 2 with lines := [some 7, some 0] }.validate = .schemeUndefined 7 ∧
      { cloth 8 2 with weaves := (cloth 8 2).weaves.set 0 ((Vector.replicate 4 (some plain)).set 3 none) }.validate =
        .weaveUndefined 0 3 ∧
      { cloth 8 2 with feeders := Vector.replicate 8 none }.validate = .feederUndefined 0 := by decide

theorem witness_ArmAndDisarm :
    woven.listens .design = true ∧ ((banks .weaving .ready woven).bank .bankB).state = .ready ∧
      (woven.bank .bankA).state = .weaving ∧ ((banks .ready .empty State.reset).bank .bankA).state = .ready ∧
      ((banks .ready .empty State.reset).bank .bankB).state ≠ .weaving ∧
      (banks .ready .empty State.reset).fits .bankA = true ∧ State.reset.shaft.reference ≠ .referenced ∧
      (banks .ready .empty woven).shaft.reference = .referenced ∧ woven.harness.live.hooks ≠ 0 ∧
      (woven.bank .bankA).state ≠ .ready ∧ (woven.bank .bankB).state = .armed ∧ woven.swapPending = false ∧
      (withSlot (.ready (frameOf { bank := .bankB, line := 0, step := 0, rep := 0 } true)) woven).swapPending = true := by
  decide

theorem witness_ReadLineStartsReadback :
    (∀ job data, woven.store.readback ≠ .filling job data) ∧ woven.listens .design = true ∧ (State.reset.bank .bankA).state = .empty ∧ (woven.bank .bankA).state ≠ .empty ∧
      (woven.article .bankA).height ≤ (0#8).toNat * 256 + (2#8).toNat ∧
      (0#8).toNat * 256 + (1#8).toNat < (woven.article .bankA).height ∧ fullQueue.store.queue ≠ [] ∧
      woven.store.queue = [] ∧
      (woven.article .bankA).schemeNumber 1 = some 0 ∧
      { cloth 8 2 with lines := [some 0, none] }.schemeNumber 1 = none ∧
      (bursting .readback false .empty (.filling (jobOf 8) [])).store.readback = .filling (jobOf 8) [] :=
  ⟨fun _ _ h => (by cases h), by decide⟩

theorem witness_ResetsAndTheirEnd :
    ({ woven with harness := { woven.harness with fixed := true } } : State).harness.fixed = true ∧
      woven.harness.fixed = false ∧ inReset.inReset = true ∧ woven.inReset = false := by decide

theorem witness_TransactionBytesRoundTrip :
    (Instr.stepBack .loom [3]).wellFormed = true ∧
      encodeTransaction (.stepBack .loom [3]) = some (.loom, [0x21, 0, 1] ++ [3]) ∧
      encodeTransaction (.overLongLength .loom 0x45 2065) = some (.loom, [0x45, 8] ++ [0x11]) ∧
      (Instr.overLongLength .loom 0x45 2065).wellFormed = true ∧ woven.inReset = false ∧
      (woven.link .loom).phase = .idle ∧ inReset.inReset = true ∧
      (∀ x ∈ [Phase.idle, .turnaround, .reply, .discarding], ((inPhase .loom x woven).link .loom).phase ≠ .command) ∧
      ({ woven with wires := [.select .loom] } : State).pending = [] := by decide

/-- The woven state meets every law that the statements about every step take as a hypothesis. -/
theorem witness_EngineLawKept : woven.EngineLaw := by
  refine ⟨by decide, by decide, ?_, ?_⟩
  · refine ⟨by decide, ?_, by decide, by decide, by decide⟩
    intro p h
    cases h
    decide
  · refine ⟨by decide, by decide, by decide, ?_⟩
    intro h
    exact absurd h (by decide)

theorem witness_ArticleAndTableLawsKept : woven.EngineLaw ∧ woven.WidthLaw ∧ woven.PositionLaw ∧ woven.TableLaw := by
  refine ⟨witness_EngineLawKept, ?_, ⟨?_, ?_, ?_⟩, ?_, ?_, ?_⟩
  · intro p h
    cases h
    decide
  · intro a h
    cases h
    refine ⟨by decide, fun _ => ⟨by decide, by decide, by decide, by decide, ?_⟩⟩
    intro r h
    cases h
  · intro a h
    cases h
    refine ⟨by decide, fun _ => ⟨by decide, by decide, by decide, by decide, ?_⟩⟩
    intro r h
    cases h
  · intro p h
    cases h
    decide
  · intro i
    rcases twoHooks_sections i with ⟨rfl, e⟩ | e <;> intro x h <;> cases e.symm.trans h
    refine ⟨by decide, ?_, ?_⟩
    · intro j hj
      exact absurd hj (Nat.not_lt_zero _)
    · intro j h
      cases h
  · intro i x h
    rcases twoHooks_sections i with ⟨-, e⟩ | e <;> cases e.symm.trans h
    decide
  · intro c h
    cases h

theorem witness_OutputsFollowAtEveryStep :
    (woven.inReset = true → woven.pick.engine = .noArticle) ∧ woven.StopFollows ∧ woven.DriversFollow ∧
      woven.OutputAvailable ∧ step woven = .next (tick woven) := by
  refine ⟨by decide, by decide, by decide, ?_, rfl⟩
  intro f h
  cases h

theorem witness_PatternMemoryKept :
    woven.MemoryCanonical ∧ (bursting .frame false .empty .empty).MemoryCanonical ∧ woven.pending = [] ∧
      step woven = .next (tick woven) ∧ woven.PortLaw := by
  refine ⟨by decide, by decide, rfl, rfl, portLaw_of_idle rfl rfl⟩

theorem witness_LinksStaySound :
    woven.AttentionFollows ∧ woven.FlagsSound ∧ step woven = .next (tick woven) := by
  refine ⟨?_, by decide, rfl⟩
  rintro k (rfl | rfl) <;> decide

theorem witness_RangesKept :
    woven.shaft.InRange ∧ woven.frame.FloatInRange ∧ step woven = .next (tick woven) := by
  refine ⟨by decide, by decide, rfl⟩

theorem witness_FigureHooksReadTheirColumns :
    woven.harness.live.Sound ∧ twoHooks.sectionAt 1 = some { first := 0, count := 2, kind := .figure 0 2 .straight } ∧
      figureColumn 0 2 .straight (1 - 0) = 1 ∧ ([0x04#8].getD (1 / 4) 0#8).toNat / 4 ^ (1 % 4) % 4 = 1 ∧
      ((cloth 8 2).weaves[((cloth 8 2).stepAt 0 1).system])[(⟨1, by decide⟩ : Fin 4)] = some plain ∧
      twoHooks.sections[(0 : Fin 16)] = some { first := 0, count := 2, kind := .figure 0 2 .straight } ∧
      twoHooks.fits 2 = true ∧ twoHooks.fits 1 = false :=
  ⟨witness_ArticleAndTableLawsKept.2.2.2.1, by decide⟩

/-- A head of four hooks: a SELVAGE hook, a DEAD hook, a hook of no section, a FIGURE hook of column 0. -/
def mixed : HarnessTable :=
  { HarnessTable.empty with
    chains := HarnessTable.empty.chains.set 1 { length := 4, enabled := true, ignoreRA := false, ignoreRB := false }
    sections := (((Vector.replicate 16 none).set 0 (some { first := 0, count := 1, kind := .selvage 0 })).set 1
      (some { first := 1, count := 1, kind := .dead })).set 2 (some { first := 3, count := 1, kind := .figure 0 1 .point })
    selvages := (Vector.replicate 4 none).set 0 (some plain) }

/-- A view of the guard with a mode and one limit for both senses, every hook committed to a run. -/
def viewOf (m : GuardMode) (limit : Nat) (r : FloatRun) : GuardView :=
  { settings := { mode := m, up := limit, down := limit }, committed := List.replicate 4 r }

theorem witness_kinds_of_FigureHooks :
    mixed.sectionAt 0 = some { first := 0, count := 1, kind := .selvage 0 } ∧ mixed.selvages[(0 : Fin 4)] = some plain ∧
      mixed.sectionAt 1 = some { first := 1, count := 1, kind := .dead } ∧ mixed.sectionAt 2 = none ∧
      mixed.sectionAt 3 = some { first := 3, count := 1, kind := .figure 0 1 .point } ∧ mixed.hooks = 4 ∧
      (frameOf (posA 0 0 0) false).level = false ∧ { frameOf (posA 0 0 0) false with level := true }.level = true ∧
      (frameOf (posA 0 0 0) false).kind = .forward ∧ (mixed.chains[(1 : Fin 8)]).length = 4 := by decide

/-- At limit (R76): a run of 3 under a limit of 3, in both senses; not a run of 2, not under limit 0, not of the other
sense. -/
theorem witness_limits_of_FigureHooks :
    (viewOf .bind 3 { sense := .up, run := 3 }).AtLimit 3 true ∧ (viewOf .bind 3 { sense := .down, run := 3 }).AtLimit 3 false ∧
      ¬ (viewOf .bind 3 { sense := .up, run := 2 }).AtLimit 3 true ∧
      ¬ (viewOf .bind 0 { sense := .none, run := 0 }).AtLimit 3 true ∧
      ¬ (viewOf .bind 0 { sense := .up, run := 64 }).AtLimit 3 true ∧
      ¬ (viewOf .bind 3 { sense := .up, run := 3 }).AtLimit 3 false ∧
      (viewOf .bind 3 { sense := .up, run := 3 }).settings.mode = .bind ∧
      (viewOf .stop 3 { sense := .up, run := 3 }).settings.mode = .stop := by decide

/-- The FIGURE hook of the mixed head lifts at pick (0, 0), and is committed UP with a run: BIND inverts it at the limit
and counts it, STOP marks the frame, and OFF, a re-form, a LEVEL frame, a run below the limit and limit 0 do neither
(R75–R78). The SELVAGE hook lifts at an even pick value; the DEAD hook and the uncovered one never do (R55, R57, R66). -/
theorem test_float_guard :
    let d := { frameOf (posA 0 0 0) false with pickValue := 2 }
    let lifts (d : Descriptor) (v : GuardView) := (List.range 4).map (deliveredLift mixed (cloth 8 2) [0] d v)
    let up (m : GuardMode) (limit run : Nat) := viewOf m limit { sense := .up, run := run }
    lifts d (up .bind 3 3) = [true, false, false, false] ∧ bindCount mixed (cloth 8 2) [0] d (up .bind 3 3) = 1 ∧
      lifts d (up .bind 3 2) = [true, false, false, true] ∧ lifts d (up .bind 0 64) = [true, false, false, true] ∧
      lifts d (up .stop 3 3) = [true, false, false, true] ∧ violates mixed (cloth 8 2) [0] d (up .stop 3 3) = true ∧
      violates mixed (cloth 8 2) [0] d (up .stop 3 2) = false ∧ lifts d (up .off 3 3) = [true, false, false, true] ∧
      lifts { d with kind := .reform .step } (up .bind 3 3) = [true, false, false, true] ∧
      lifts { d with level := true } (up .bind 3 3) = [false, false, false, false] ∧
      violates mixed (cloth 8 2) [0] { d with level := true } (up .stop 3 3) = false ∧
      lifts { d with pickValue := 1 } (up .bind 3 2) = [false, false, false, true] := by decide

theorem witness_FeederResolution :
    (Vector.replicate 8 true)[(0 : Fin 8)] = true ∧ ((Vector.replicate 8 true).set 0 false)[(0 : Fin 8)] = false ∧
      (((Vector.replicate 8 true).set 0 false).set 1 false)[(1 : Fin 8)] = false ∧
      resolveFeeder (some { primary := 0, alternate := some 1, mode := .alternate }) .alternateNext
        ((Vector.replicate 8 true).set 0 false) = (some 1, false) := by decide

end Sys2Proof.Tests
end

section
/-! PROOF. The shaft and the weaving cycle (spec/01): counts and the cycle offset, the illegal step, the forward latch,
the index, and the loom commands RESYNC, CLEAR FAULT, SET TIMING and SET MARGIN. -/

namespace Sys2Proof.Proofs

open Sys2Proof.Machine

section Counts

variable (s : State)

/-! ## The rows of the shaft while no reset is applied -/

/-- A count outside reset is taken by the shaft (R1). -/
theorem exec_encoderCount (dir : Direction) (h : s.inReset = false) :
    exec (.encoderCount dir) s = .next (shaftCount dir s) := by
  have arm : exec (.encoderCount dir) s = execEncoderCount dir s := rfl
  simp [arm, execEncoderCount, h]

/-- An illegal step outside reset is taken by the shaft (R2). -/
theorem exec_illegalStep (h : s.inReset = false) : exec .illegalStep s = .next (illegalStep s) := by
  have arm : exec .illegalStep s = execIllegalStep s := rfl
  simp [arm, execIllegalStep, h]

/-- An index outside reset is taken by the shaft (R4–R7). -/
theorem exec_index (h : s.inReset = false) : exec .index s = .next (takeIndex s) := by
  have arm : exec .index s = execIndex s := rfl
  simp [arm, execIndex, h]

/-! ## Counts (R7, R8) -/

/-- Outside REFERENCED a count moves no cycle offset (R7). -/
theorem shaftCount_of_not_referenced (dir : Direction) (h : s.shaft.reference ≠ .referenced) :
    shaftCount dir s = countShaft dir s := by
  simp [shaftCount, h]

/-- In REFERENCED a forward count goes on to the cycle offset (R8). -/
theorem shaftCount_forward (h : s.shaft.reference = .referenced) :
    shaftCount .forward s = countForward (countShaft .forward s) := by
  simp [shaftCount, h]

/-- In REFERENCED a backward count goes on to the cycle offset (R8). -/
theorem shaftCount_backward (h : s.shaft.reference = .referenced) :
    shaftCount .backward s = countBackward (countShaft .backward s) := by
  simp [shaftCount, h]

/-- The cycle offset after a forward count (R8). -/
theorem countForward_offset :
    (countForward s).shaft.offset = if s.shaft.offset + 1 = 1024 then 0 else s.shaft.offset + 1 := by
  unfold countForward
  split <;> simp

/-- The cycle offset after a backward count (R8). -/
theorem countBackward_offset :
    (countBackward s).shaft.offset =
      if s.shaft.offset - 1 = -(s.shaft.timing.backOff : Int) then 1024 - (s.shaft.timing.backOff : Int)
      else s.shaft.offset - 1 := by
  simp only [countBackward]
  split <;> simp

/-- The cycle offset after a count of the REFERENCED shaft (R8). -/
theorem shaftCount_offset (dir : Direction) (h : s.shaft.reference = .referenced) :
    (shaftCount dir s).shaft.offset =
      (match dir with
        | .forward => if s.shaft.offset + 1 = 1024 then 0 else s.shaft.offset + 1
        | .backward =>
          if s.shaft.offset - 1 = -(s.shaft.timing.backOff : Int) then 1024 - (s.shaft.timing.backOff : Int)
          else s.shaft.offset - 1) := by
  cases dir with
  | forward => simp [shaftCount_forward s h, countForward_offset]
  | backward => simp [shaftCount_backward s h, countBackward_offset]

/-! ## Entry to LOST (R12) -/

/-- Entry to LOST cancels the measurement and records its cause, and writes nothing else of the shaft (R12). -/
theorem loseShaft_shaft (c : LossCause) :
    (loseShaft c s).shaft = { s.shaft.cancel with reference := .lost, cause := c } := by
  unfold loseShaft
  dsimp only
  split <;> simp [weftOff]

/-! ## An illegal step (R2) -/

/-- An illegal step of the REFERENCED shaft loses it (R2). -/
theorem illegalStep_of_referenced (h : s.shaft.reference = .referenced) :
    illegalStep s =
      loseShaft .illegalStep { s with shaft.lines := { a := !s.shaft.lines.a, b := !s.shaft.lines.b } } := by
  simp [illegalStep, h]

/-- An illegal step outside REFERENCED changes the lines alone (R2). -/
theorem illegalStep_of_not_referenced (h : s.shaft.reference ≠ .referenced) :
    illegalStep s = { s with shaft.lines := { a := !s.shaft.lines.a, b := !s.shaft.lines.b } } := by
  simp [illegalStep, h]

end Counts

/-- Settles O4: outside REFERENCED a count ends with what every count does; in REFERENCED the offset goes by its
equation, which stays in −h+1..1023. -/
theorem countsAndTheCycleOffset : Obligations.CountsAndTheCycleOffset := by
  refine ⟨fun s dir hr href => ⟨⟨s.shaft.lines.next dir, ?_⟩, fun hl => ?_⟩, fun s dir hr href => ?_⟩
  · rw [exec_encoderCount s dir hr, shaftCount_of_not_referenced s dir href]
    cases dir <;> rfl
  · simp [exec_index s hr, takeIndex, hl]
  · refine ⟨_, exec_encoderCount s dir hr, shaftCount_offset s dir href, fun _ _ hlo hhi => ?_⟩
    rw [shaftCount_offset s dir href]
    cases dir with
    | forward => dsimp only; split <;> omega
    | backward => dsimp only; split <;> omega

/-- Settles O6, by the two cases of the reference state. -/
theorem illegalStepIsNoCount : Obligations.IllegalStepIsNoCount := by
  intro s hr
  refine ⟨_, exec_illegalStep s hr, ?_⟩
  by_cases href : s.shaft.reference = .referenced
  · simp [illegalStep_of_referenced s href, href, loseShaft_shaft, Shaft.cancel]
  · simp [illegalStep_of_not_referenced s href, href]

/-! ## The MARGIN LOW flag (R20, R191): of all that a forward latch does, the tracker alone may raise it -/

section MarginFlag

variable (s : State)

/-- MARGIN LOW is event 11 of the loom link, and no other event is (R191). -/
@[simp] theorem eventBit_loom_margin (e : Event) : (eventBit .loom e)[11] = decide (e = .marginLow) := by
  cases e <;> rfl

/-- A conditional event other than MARGIN LOW leaves the flag. -/
theorem raiseIf_margin (c : Bool) (e : Event) (h : e ≠ .marginLow) :
    (raiseIf c .loom e s).loom.flags[11] = s.loom.flags[11] := by
  cases c <;> simp [h]

/-- MARGIN LOW raised on a condition. -/
theorem raiseIf_marginLow (c : Bool) :
    (raiseIf c .loom .marginLow s).loom.flags[11] = (s.loom.flags[11] || c) := by
  cases c <;> simp

/-- A fault report leaves the flag. -/
@[simp] theorem reportFault_margin (kind : FaultKind) (cause : LossCause) :
    (reportFault kind cause s).loom.flags[11] = s.loom.flags[11] := by
  cases h : s.pick.fault <;> simp [reportFault, h, enterFirstFault, countLaterFault]

/-- The report of a resolution leaves the flag (R91). -/
@[simp] theorem raiseResolution_margin (r : Option (Fin 8) × Bool) :
    (raiseResolution r s).loom.flags[11] = s.loom.flags[11] := by
  unfold raiseResolution
  split
  · exact reportFault_margin s _ _
  · exact raiseIf_margin s _ _ nofun

/-- Re-resolving the feeder output leaves the flag (R97). -/
@[simp] theorem reResolveOutput_margin (r : OutputRecord) :
    (reResolveOutput r s).loom.flags[11] = s.loom.flags[11] := by
  unfold reResolveOutput
  dsimp only
  split
  · simp
  · exact raiseIf_margin _ _ _ nofun

/-- Presenting a feeder leaves the flag (R95, R96). -/
@[simp] theorem presentFeeder_margin (f : Option (Fin 8)) (d : Descriptor) :
    (presentFeeder f d s).loom.flags[11] = s.loom.flags[11] := by
  unfold presentFeeder
  dsimp only
  split <;> simp

/-- A crossing of S leaves the flag (R95). -/
@[simp] theorem weftSelect_margin : (weftSelect s).loom.flags[11] = s.loom.flags[11] := by
  unfold weftSelect
  split
  · simp
  · split
    · rfl
    · split <;> simp

/-- An assembly start leaves the flag (R109). -/
@[simp] theorem beginFrame_margin (kind : FrameKind) (p : Position) (swap : Bool) (n : Nat) :
    (beginFrame kind p swap n s).loom.flags[11] = s.loom.flags[11] := by
  unfold beginFrame
  dsimp only
  split <;> simp

/-- The start of a forward frame leaves the flag (R104). -/
@[simp] theorem beginForward_margin (p : Position) (swap : Bool) :
    (beginForward p swap s).loom.flags[11] = s.loom.flags[11] := by
  unfold beginForward
  dsimp only
  split <;> simp

/-- A refused swap leaves the flag (R37). -/
@[simp] theorem refuseSwap_margin (b : BankId) : (refuseSwap b s).loom.flags[11] = s.loom.flags[11] := by
  simp [refuseSwap]

/-- Starting the next forward frame leaves the flag (R104). -/
@[simp] theorem startForward_margin : (startForward s).loom.flags[11] = s.loom.flags[11] := by
  unfold startForward
  split
  · split
    · rfl
    · split
      · simp
      · split <;> simp
  · rfl

/-- The marks leave the flag (R11). -/
@[simp] theorem crossMarks_margin : (crossMarks s).loom.flags[11] = s.loom.flags[11] := by
  unfold crossMarks
  dsimp only
  split <;> split <;> simp

/-- A wrap decided now leaves the flag (R35–R37). -/
@[simp] theorem wrapNow_margin (p : Position) : (wrapNow p s).loom.flags[11] = s.loom.flags[11] := by
  unfold wrapNow
  split <;> simp [plainWrap, commitSwap]

/-- A forward move leaves the flag (R24). -/
@[simp] theorem forwardMove_margin (decided : Option Bool) :
    (forwardMove decided s).loom.flags[11] = s.loom.flags[11] := by
  unfold forwardMove
  split
  · rfl
  · split
    · simp
    · split <;> simp [plainWrap, commitSwap]

/-- The pick engine at a forward latch leaves the flag (R27, R33). -/
@[simp] theorem advance_margin (decided : Option Bool) (kind : RecordKind) (f : Option (Fin 8)) (sub : Bool) (n : Nat) :
    (advance decided kind f sub n s).loom.flags[11] = s.loom.flags[11] := by
  simp [advance, raiseIf_margin]

/-- The latch of a READY frame leaves the flag (R113). -/
@[simp] theorem takeReady_margin (d : Descriptor) : (takeReady d s).loom.flags[11] = s.loom.flags[11] := by
  unfold takeReady
  dsimp only
  split <;> simp

/-- A LATE latch leaves the flag (R114). -/
@[simp] theorem takeLate_margin : (takeLate s).loom.flags[11] = s.loom.flags[11] := by
  simp [takeLate]

/-- The engine at a forward latch leaves the flag (R27). -/
@[simp] theorem latchEngine_margin : (latchEngine s).loom.flags[11] = s.loom.flags[11] := by
  unfold latchEngine
  split
  · split <;> simp
  · rfl

/-- A forward latch raises MARGIN LOW by the tracker's test of the slack (R20). -/
theorem forwardLatch_margin :
    (forwardLatch s).loom.flags[11] =
      (s.loom.flags[11] || ((s.shaft.measure).takeSlack s.findsReady).marginLow s.findsReady) := by
  simp [forwardLatch, latchTracker, raiseIf_marginLow]

end MarginFlag

/-! ## The forward latch (R17–R20) -/

section ForwardLatch

variable {s : State}

/-- A forward latch writes the shaft by its measurement and its slack alone (R17–R19). -/
theorem forwardLatch_shaft (s : State) : (forwardLatch s).shaft = (s.shaft.measure).takeSlack s.findsReady := by
  simp [forwardLatch, latchTracker]

/-- The state a latch finds: the count has been taken and d has been brought to 0 (R8, R9). -/
def latchCount (s : State) : State :=
  let t := countShaft .forward s
  { t with shaft.offset := 0 }

/-- The count that brings d to 1,024 takes the latch and then the marks at 0 (R9, R11). -/
theorem exec_forwardLatch (h : s.AtForwardLatch) :
    exec (.encoderCount .forward) s = .next (crossMarks (forwardLatch (latchCount s))) := by
  obtain ⟨hr, href, hd⟩ := h
  rw [exec_encoderCount s .forward hr, shaftCount_forward s href]
  simp [countForward, hd, latchCount]

/-- The count before the latch leaves the measurement, the slack counter and the margin. -/
@[simp] theorem latchCount_shaft :
    (latchCount s).shaft.speed = s.shaft.speed ∧ (latchCount s).shaft.interval = s.shaft.interval ∧
      (latchCount s).shaft.measuring = s.shaft.measuring ∧
      (latchCount s).shaft.slackCounter = s.shaft.slackCounter ∧ (latchCount s).shaft.margin = s.shaft.margin ∧
      (latchCount s).shaft.timing = s.shaft.timing ∧ (latchCount s).shaft.offset = 0 := by
  simp [latchCount]

/-- The count before the latch leaves the loom link. -/
@[simp] theorem latchCount_loom : (latchCount s).loom = s.loom := by simp [latchCount]

/-- The latch finds the frame that was in the slot before the count (R19). -/
@[simp] theorem latchCount_findsReady : (latchCount s).findsReady = s.findsReady := by
  simp [latchCount, State.findsReady]

/-- A latch in WEAVING with a READY frame finds it (R19). -/
theorem findsReady_of_ready {d : Descriptor} (he : s.pick.engine = .weaving) (hd : s.frame.slot = .ready d) :
    s.findsReady = true := by
  simp [State.findsReady, he, hd, Slot.isReady]

/-- A latch outside WEAVING, or with no READY frame, finds none (R19). -/
theorem findsReady_of_none (h : s.pick.engine ≠ .weaving ∨ ∀ d, s.frame.slot ≠ .ready d) :
    s.findsReady = false := by
  rcases h with h | h
  · simp [State.findsReady, h]
  · cases hd : s.frame.slot with
    | empty => simp [State.findsReady, hd, Slot.isReady]
    | assembling d v g => simp [State.findsReady, hd, Slot.isReady]
    | ready d => exact absurd hd (h d)

/-- Away from the frame start the marks leave the shaft (R11). -/
theorem crossMarks_shaft (h : s.shaft.offset ≠ (s.shaft.timing.frameStart : Int)) :
    (crossMarks s).shaft = s.shaft := by
  have notStart : s.shaft.crosses s.shaft.timing.frameStart = false := by simpa [Shaft.crosses] using h
  simp only [crossMarks, notStart]
  split <;> simp

/-- A latch sets the speed by the measurement, and the measurement starts again from 0 (R17, R18). -/
theorem latch_measures :
    (crossMarks (forwardLatch (latchCount s))).shaft.speed =
        (if s.shaft.measuring then speedOf s.shaft.interval else 0) ∧
      (crossMarks (forwardLatch (latchCount s))).shaft.measuring = true ∧
      (crossMarks (forwardLatch (latchCount s))).shaft.interval = 0 ∧
      (crossMarks (forwardLatch (latchCount s))).shaft.intervalRunning = true := by
  simp [forwardLatch_shaft, Shaft.takeSlack, Shaft.measure]

/-- The slack of a latch that finds a READY frame is the slack counter (R19). -/
theorem latch_slack (h : s.findsReady = true) :
    (crossMarks (forwardLatch (latchCount s))).shaft.slack = s.shaft.slackCounter := by
  simp [forwardLatch_shaft, Shaft.takeSlack, Shaft.measure, h]

/-- A frame start that is not at 0 leaves the slack counter at a latch (R19). -/
theorem latch_slackCounter (h : s.shaft.timing.frameStart ≠ 0) :
    (crossMarks (forwardLatch (latchCount s))).shaft.slackCounter = s.shaft.slackCounter := by
  have away : (forwardLatch (latchCount s)).shaft.offset ≠
      ((forwardLatch (latchCount s)).shaft.timing.frameStart : Int) := by
    simpa using (Int.natCast_ne_zero.mpr h).symm
  simp [crossMarks_shaft away]

/-- A latch that finds a READY frame raises MARGIN LOW for a slack below a margin that is not 0 (R20). -/
theorem latch_margin (h : s.findsReady = true) :
    (crossMarks (forwardLatch (latchCount s))).loom.flags[11] =
      (s.loom.flags[11] || (s.shaft.margin != 0 && decide (s.shaft.slackCounter < s.shaft.margin))) := by
  simp [forwardLatch_margin, Shaft.marginLow, Shaft.takeSlack, Shaft.measure, h]

/-- A latch that finds no READY frame raises no MARGIN LOW (R20). -/
theorem latch_margin_of_none (h : s.findsReady = false) :
    (crossMarks (forwardLatch (latchCount s))).loom.flags[11] = s.loom.flags[11] := by
  simp [forwardLatch_margin, Shaft.marginLow, h]

/-- SET MARGIN on a loom link that listens (R20). -/
theorem exec_setMargin (p : List Byte) (h : s.listens .loom = true) (hp : p.length = 4) :
    exec (.setMargin .loom p) s =
      .next (answer .loom 0x30 (.done []) { s with shaft.margin := min (longAt p 0) 65535 }) :=
  congrArg Host.Outcome.next (transact_own h (by simp [hp, maxParams]) rfl hp.ge hp.le)

end ForwardLatch

/-- Settles O5: the latch's measurement, its slack and its one flag. -/
theorem forwardLatchMeasuresSpeedAndSlack : Obligations.ForwardLatchMeasuresSpeedAndSlack := by
  refine ⟨fun s h => ⟨_, exec_forwardLatch h, latch_measures⟩, fun p s hs hp => exec_setMargin p hs hp,
    fun s d h he hd => ⟨_, exec_forwardLatch h, ?_⟩, fun s h hn => ⟨_, exec_forwardLatch h, ?_⟩⟩
  · have found := findsReady_of_ready he hd
    refine ⟨?_, latch_slackCounter, latch_slack found⟩
    rw [latch_slack found]
    simpa using latch_margin found
  · simpa using latch_margin_of_none (findsReady_of_none hn)

/-! ## Re-forms (R106, R107) -/

section Reform

variable (s : State)

/-- The descriptor of an assembly start takes its weft and its feeder from the banks, the alternation and the
availability as they stand (R87, R88, R109). -/
theorem feeds_describe (kind : FrameKind) (p : Position) (swap : Bool) (n : Nat) : s.Feeds (s.describe kind p swap n) :=
  ⟨rfl, rfl, rfl⟩

/-- A frame's weft and feeder rest on the banks, the alternation and the availability alone, and not on the bind count
and the mark that its computation writes (R87, R88, R111). -/
theorem feeds_congr {s t : State} {d d' : Descriptor} (h : s.Feeds d) (hA : t.store.bankA = s.store.bankA)
    (hB : t.store.bankB = s.store.bankB) (halt : t.frame.alternation = s.frame.alternation)
    (hav : t.frame.available = s.frame.available)
    (hd : d' = { d with bindCount := d'.bindCount, violation := d'.violation }) : t.Feeds d' := by
  rw [hd]
  simpa only [State.Feeds, article_congr hA hB, halt, hav] using h

/-- The frame an assembly start leaves in the slot: its descriptor, with the bind count and the mark of its computation
where it has been computed at once (R69, R109). -/
theorem beginFrame_desc (kind : FrameKind) (p : Position) (swap : Bool) (n : Nat) :
    ∃ d, (beginFrame kind p swap n s).frame.slot.desc = some d ∧
      d = { s.describe kind p swap n with bindCount := d.bindCount, violation := d.violation } := by
  unfold beginFrame
  dsimp only
  split
  · exact ⟨_, rfl, rfl⟩
  · exact ⟨s.describe kind p swap n, by simp [Slot.desc], rfl⟩

/-- An assembly start of a re-form sets the re-forming flag (R23, R106). -/
theorem beginFrame_reforming (c : Cause) (p : Position) (swap : Bool) (n : Nat) :
    (beginFrame (.reform c) p swap n s).pick.reforming = true := by
  unfold beginFrame
  dsimp only
  split <;> simp

/-- After an assembly start its frame is in the slot (R109). -/
theorem beginFrame_holds (kind : FrameKind) (p : Position) (swap : Bool) (n : Nat) :
    (beginFrame kind p swap n s).Holds kind p := by
  obtain ⟨d, hd, he⟩ := beginFrame_desc s kind p swap n
  refine ⟨d, hd, by rw [he]; rfl, by rw [he]; rfl, ?_⟩
  exact feeds_congr (feeds_describe s kind p swap n) (by simp) (by simp) (by simp) (by simp) he

/-- With hooks to compute, the start of a re-form is its assembly start in place of what was pending (R106). -/
theorem beginReform_of_hooks (c : Cause) (p : Position) (hp : s.pick.position = some p)
    (hh : s.harness.live.hooks ≠ 0) :
    beginReform c s = beginFrame (.reform c) p false s.pick.counter (discard s) := by
  simp [beginReform, hp, State.noHooks, hh]

/-- With hooks to compute, the start of a re-form puts it in the slot, sets the re-forming flag and leaves the latched
selection (R23, R106). -/
theorem beginReform_holds (c : Cause) (p : Position) (hp : s.pick.position = some p) (hh : s.harness.live.hooks ≠ 0) :
    (beginReform c s).Holds (.reform c) p ∧ (beginReform c s).pick.reforming = true ∧
      (beginReform c s).frame.latched = s.frame.latched := by
  rw [beginReform_of_hooks s c p hp hh]
  exact ⟨beginFrame_holds _ _ _ _ _, beginFrame_reforming _ _ _ _ _, by simp⟩

/-- An owed re-form of the REFERENCED shaft starts with its cause (R107). -/
theorem startOwed_of_referenced (c : Cause) (ho : s.frame.owed = some c) (hr : s.shaft.reference = .referenced) :
    startOwed s = beginReform c { s with frame.owed := none } := by
  simp [startOwed, ho, startReform, hr]

/-- An owed re-form started writes of the shaft at most the slack counter, which a frame completed at once sets to 0
(R112). -/
theorem startOwed_shaft :
    (startOwed s).shaft = { s.shaft with slackCounter := (startOwed s).shaft.slackCounter } :=
  (Shaft.mk.injEq ..).mpr (by simp)

/-- With none owed a referencing starts no re-form (R107). -/
theorem startOwed_of_none (ho : s.frame.owed = none) : startOwed s = s := by simp [startOwed, ho]

/-- An owed re-form of the REFERENCED shaft, with hooks to compute, is in the slot at once (R107). -/
theorem startOwed_holds (c : Cause) (p : Position) (ho : s.frame.owed = some c) (hr : s.shaft.reference = .referenced)
    (hp : s.pick.position = some p) (hh : s.harness.live.hooks ≠ 0) :
    (startOwed s).Holds (.reform c) p ∧ (startOwed s).pick.reforming = true ∧
      (startOwed s).frame.latched = s.frame.latched := by
  rw [startOwed_of_referenced s c ho hr]
  exact beginReform_holds { s with frame.owed := none } c p hp hh

/-- While the shaft is REFERENCED no re-form stays owed (R107). -/
theorem startOwed_owed (hr : s.shaft.reference = .referenced) : (startOwed s).frame.owed = none := by
  cases ho : s.frame.owed with
  | none => rw [startOwed_of_none s ho, ho]
  | some c => simp [startOwed_of_referenced s c ho hr]

end Reform

/-! ## The index (R4–R6) -/

section Index

variable {s : State}

/-- The shaft as a referencing leaves it, before an owed re-form starts (R4). -/
def referencedAtIndex (s : State) : State :=
  { s with shaft := { s.shaft with angle := 0, offset := s.shaft.timing.offsetOf 0, reference := .referenced } }

/-- The index references an UNREFERENCED shaft (R4). -/
theorem takeIndex_unreferenced (h : s.shaft.reference = .unreferenced) :
    takeIndex s = startOwed (referencedAtIndex s) := by
  simp [takeIndex, h, referencedAtIndex]

/-- An angle that passes the check is corrected, and d with it (R5, R6). -/
theorem takeIndex_near (h : s.shaft.reference = .referenced)
    (hn : nearIndex s.shaft.timing.tolerance s.shaft.angle = true) :
    takeIndex s = { s with
      shaft := { s.shaft with
        angle := 0
        offset := s.shaft.adjust (s.shaft.offset + indexCorrection s.shaft.timing.tolerance s.shaft.angle) } } := by
  simp [takeIndex, h, hn]

/-- An angle that fails the check loses the shaft (R5). -/
theorem takeIndex_far (h : s.shaft.reference = .referenced)
    (hn : nearIndex s.shaft.timing.tolerance s.shaft.angle = false) :
    takeIndex s = loseShaft .indexMismatch s := by
  simp [takeIndex, h, hn]

/-- An angle up to the tolerance passes and is corrected downward (R5). -/
theorem nearIndex_above {t c : Nat} (h : c ≤ t) : nearIndex t c = true ∧ indexCorrection t c = -(c : Int) := by
  simp [nearIndex, indexCorrection, h]

/-- An angle up to the tolerance below 1,024 passes and is corrected upward (R5). -/
theorem nearIndex_below {t c : Nat} (hpos : 1 ≤ c) (h : c ≤ t) (ht : t ≤ 7) :
    nearIndex t (1024 - c) = true ∧ indexCorrection t (1024 - c) = (c : Int) := by
  have high : ¬ 1024 - c ≤ t := by omega
  have window : 1024 - t ≤ 1024 - c ∧ 1024 - c ≤ 1023 := by omega
  refine ⟨by simp [nearIndex, window], ?_⟩
  rw [indexCorrection, if_neg high]
  omega

/-- An angle between the two ends of the window fails (R5). -/
theorem nearIndex_far {t a : Nat} (hlo : t < a) (hhi : a < 1024 - t) : nearIndex t a = false := by
  have low : ¬ 1024 - t ≤ a := Nat.not_le.mpr hhi
  simp only [nearIndex, decide_eq_false (Nat.not_le.mpr hlo), decide_eq_false low, Bool.false_and, Bool.or_self]

/-- The two ends of −h+1..1023 exclude each other, so the adjustment may test either first (R6). -/
theorem adjust_eq (x : Shaft) (d : Int) :
    x.adjust d = if d ≤ -(x.timing.backOff : Int) then d + 1024 else if 1024 ≤ d then d - 1024 else d := by
  unfold Shaft.adjust
  split <;> split <;> omega

/-- With the latch angle less the back-off outside the window of the index, a downward correction crosses no end of
−h+1..1023 (R6, R15): d − c at −h or below would put that point within c above the index. -/
theorem correction_down_in_range {t : Timing} {d r : Int} {c : Nat} (ha : t.Acceptable) (hb : t.backOff ≤ 32)
    (hlo : -(t.backOff : Int) < d) (hhi : d ≤ 1023) (hd : d = (c : Int) - t.latchAngle + 1024 * r)
    (hc : c ≤ t.tolerance) : -(t.backOff : Int) < d - c ∧ d - c < 1024 := by
  obtain ⟨_, _, _, _, _, _, _, backOffClear, _⟩ := ha
  unfold inWindow at backOffClear
  omega

/-- With the latch angle outside the window of the index, an upward correction crosses no end of −h+1..1023 (R6, R15):
d + c at 1,024 or above would put the latch angle at the index or within c below it. -/
theorem correction_up_in_range {t : Timing} {d r : Int} {c : Nat} (ha : t.Acceptable)
    (hlo : -(t.backOff : Int) < d) (hhi : d ≤ 1023) (hd : d = ((1024 - c : Nat) : Int) - t.latchAngle + 1024 * r)
    (hc : c ≤ t.tolerance) : -(t.backOff : Int) < d + c ∧ d + c < 1024 := by
  obtain ⟨_, _, _, _, small, _, latchClear, _⟩ := ha
  unfold inWindow at latchClear
  omega

end Index

/-- Settles O7: referencing in UNREFERENCED; in REFERENCED the two ends of the window, the range of the correction, and
the mismatch. -/
theorem indexReferencesAndChecks : Obligations.IndexReferencesAndChecks := by
  refine ⟨fun s hr href => ⟨startOwed (referencedAtIndex s), ?_, startOwed_shaft (referencedAtIndex s), ?_, ?_,
    startOwed_owed (referencedAtIndex s) rfl, fun ho => ?_,
    fun c p ho hp hh => startOwed_holds (referencedAtIndex s) c p ho rfl hp hh⟩,
    fun s hr href _ ht => ⟨?_, ?_, ?_, ?_⟩⟩
  · rw [exec_index s hr, takeIndex_unreferenced href]
  · simp [referencedAtIndex]
  · simp [referencedAtIndex]
  · rw [startOwed_of_none (referencedAtIndex s) ho]
    exact ⟨rfl, rfl, rfl, rfl, rfl, rfl⟩
  · intro c hc ha
    obtain ⟨near, correction⟩ := nearIndex_above hc
    rw [exec_index s hr, takeIndex_near href (ha ▸ near), ha, correction, adjust_eq, ← Int.sub_eq_add_neg]
  · intro c hpos hc ha
    obtain ⟨near, correction⟩ := nearIndex_below hpos hc ht
    rw [exec_index s hr, takeIndex_near href (ha ▸ near), ha, correction]
    rfl
  · rintro hacc - hb hlo hhi ⟨r, hd⟩
    refine ⟨fun c hc ha => ?_, fun c _ hc ha => ?_⟩
    · exact correction_down_in_range hacc hb hlo hhi (ha ▸ hd) hc
    · exact correction_up_in_range hacc hlo hhi (ha ▸ hd) hc
  · intro hlo hhi
    refine ⟨_, exec_index s hr, ?_⟩
    rw [takeIndex_far href (nearIndex_far hlo hhi)]
    simp [loseShaft_shaft, Shaft.cancel]

section Commands

variable (s : State)

/-! ## Drivers (R119, R121) -/

/-- The model's driver test is the six conditions of R119. -/
theorem wantsDriver_iff (c : Fin 8) : s.wantsDriver c = true ↔ s.DriverConditions c := by
  have weaves : s.weaves = true ↔ s.pick.engine = .weaving ∨ s.pick.engine = .unsynchronised := by
    cases h : s.pick.engine <;> simp [State.weaves, h]
  have unmasked (asserted ignored : Bool) : (!asserted || ignored) = true ↔ (asserted = true → ignored = true) := by
    cases asserted <;> simp
  simp only [State.wantsDriver, State.lossRelease, Bool.and_eq_true, Bool.not_eq_true', ← Bool.not_eq_true,
    bne_iff_ne, beq_iff_eq, weaves, unmasked, State.DriverConditions]
  tauto

/-- The drive level of a chain by the stage (R121). -/
theorem wantsLevel_eq (x : HarnessUnit) (c : Fin 8) :
    x.wantsLevel c = x.drive.slots[if x.stage = .run then x.drive.runSlots[c] else x.drive.standstillSlot] := by
  obtain ⟨_, _, _, _, _, _, _, stage, _, _, _⟩ := x
  cases stage <;> rfl

/-- Once the drivers have followed, they stand as R119 and R121 say. -/
theorem driversFollow_followDrivers : (followDrivers s).DriversFollow := by
  intro c
  have driver : (followDrivers s).harness.driversOn[c] = s.wantsDriver c := by simp
  have level : (followDrivers s).harness.levels[c] = s.harness.wantsLevel c := by simp
  rw [driver, level]
  exact ⟨wantsDriver_iff s c, wantsLevel_eq s.harness c⟩

/-! ## CLEAR FAULT and RESYNC (R174, R178) -/

/-- CLEAR FAULT empties the record and leaves the stop request to UNSYNCHRONISED (R174). -/
theorem clearFault_eq :
    clearFault s = { s with pick := { s.pick with fault := none, stopRequest := s.pick.engine == .unsynchronised } } :=
  rfl

/-- RESYNC without an article is refused (R178). -/
theorem resync_noArticle (h : s.pick.engine = .noArticle) : resync s = (s, .refused .noArticle .none) := by
  simp [resync, h, refuse]

/-- RESYNC in WEAVING has no loss to end (R178). -/
theorem resync_weaving (h : s.pick.engine = .weaving) : resync s = (s, .done []) := by simp [resync, h, done]

/-- RESYNC of a shaft that moves is refused (R178). -/
theorem resync_moving (h : s.pick.engine = .unsynchronised) (hm : s.shaft.motion ≠ .still) :
    resync s = (s, .refused .moving .none) := by
  simp [resync, h, hm, refuse]

/-- RESYNC of an UNSYNCHRONISED engine at rest is taken (R178). -/
theorem resync_still (h : s.pick.engine = .unsynchronised) (hm : s.shaft.motion = .still) :
    resync s = (resyncShaft s, .done []) := by
  simp [resync, h, hm, done]

/-- What RESYNC writes: the reference state, the loss cause and the speed, the engine with the stop request, and the pins
of the chains (R13, R178). -/
theorem resyncShaft_fields :
    (resyncShaft s).shaft = { s.shaft with reference := .unreferenced, cause := .none, speed := 0 } ∧
      (resyncShaft s).pick = { s.pick with engine := .weaving, stopRequest := s.pick.fault.isSome } ∧
      (resyncShaft s).frame = s.frame ∧ (resyncShaft s).store = s.store ∧ (resyncShaft s).loom = s.loom ∧
      (resyncShaft s).design = s.design ∧
      (resyncShaft s).harness = { s.harness with
        driversOn := (resyncShaft s).harness.driversOn, levels := (resyncShaft s).harness.levels } := by
  have noStop : (Engine.weaving == .unsynchronised) = false := rfl
  refine ⟨?_, ?_, ?_, ?_, ?_, ?_, rfl⟩ <;> simp [resyncShaft, noStop]

/-- A loom command without parameters that the loom link takes is answered by its own rule (R182). -/
theorem transact_loom_bare (code : Byte) (own : State → State × Reply) (h : s.listens .loom = true) :
    transact .loom code .loomOnly 0 0 [] own s = answer .loom code (own s).2 (own s).1 :=
  transact_own h (Nat.zero_le _) rfl (Nat.le_refl 0) (Nat.le_refl 0)

/-- CLEAR FAULT on a loom link that listens (R174). -/
theorem exec_clearFault (h : s.listens .loom = true) :
    exec (.clearFault .loom []) s = .next (answer .loom 0x20 (.done []) (clearFault s)) :=
  congrArg Host.Outcome.next (transact_loom_bare s 0x20 (fun s => done (clearFault s)) h)

/-- RESYNC on a loom link that listens (R178). -/
theorem exec_resync (h : s.listens .loom = true) :
    exec (.resync .loom []) s = .next (answer .loom 0x28 (resync s).2 (resync s).1) :=
  congrArg Host.Outcome.next (transact_loom_bare s 0x28 resync h)

/-! ## SET TIMING (R14–R16) -/

/-- With the tolerance in its range, a point is near the index exactly while it lies in the window of R15. -/
theorem timing_near_iff (t : Timing) (angle : Nat) (h : t.tolerance ≤ 7) :
    t.near angle = true ↔ inWindow t.tolerance angle := by
  have mod : angle % 1024 < 1024 := Nat.mod_lt _ (by decide)
  simp only [Timing.near, nearIndex, Bool.and_eq_true, Bool.or_eq_true, decide_eq_true_eq, inWindow]
  omega

/-- The number of a failing case of R15 names one of the first seven settings (R14). -/
theorem timing_failure_le (t : Timing) (f : Nat) (h : t.failure = some f) : f ≤ 6 := by
  unfold Timing.failure at h
  grind

/-- No case of R15 fails exactly for the settings that R15 accepts. -/
theorem timing_failure_eq_none_iff (t : Timing) (hb : t.backOff ≤ 32) : t.failure = none ↔ t.Acceptable := by
  by_cases ht : t.tolerance ≤ 7
  · have frameStart : 1023 - t.backOff < t.frameStart ↔ ¬ t.frameStart + t.backOff ≤ 1023 := by omega
    have wide (n : Nat) : 1023 < n ↔ ¬ n ≤ 1023 := Nat.not_le.symm
    simp only [Timing.failure, timing_near_iff t _ ht, frameStart, wide, Timing.Acceptable]
    grind
  · have out : 7 < t.tolerance := Nat.not_le.mp ht
    have rejected : ¬ t.Acceptable := fun ⟨_, _, _, _, h, _⟩ => ht h
    simp only [Timing.failure, out, rejected, if_true, iff_false]
    grind

/-- SET TIMING while the shaft moves (R14). -/
theorem setTiming_moving (t : Timing) (h : s.shaft.motion ≠ .still) : setTiming t s = (s, .refused .moving .none) := by
  simp [setTiming, h, refuse]

/-- SET TIMING with a setting that fails (R15). -/
theorem setTiming_range (t : Timing) (f : Nat) (h : s.shaft.motion = .still) (hf : t.failure = some f) :
    setTiming t s = (s, .refused .range (.number f)) := by
  simp [setTiming, h, hf, rangeAt]

/-- SET TIMING with settings that no case of R15 refuses (R16). -/
theorem setTiming_taken (t : Timing) (h : s.shaft.motion = .still) (hf : t.failure = none) :
    setTiming t s = (applyTiming t s, .done []) := by
  simp [setTiming, h, hf, done]

/-- SET TIMING on a loom link that listens (R14). -/
theorem exec_setTiming (p : List Byte) (h : s.listens .loom = true) (hp : p.length = 14) :
    exec (.setTiming .loom p) s =
      .next (answer .loom 0x2D (setTiming (timingOf p) s).2 (setTiming (timingOf p) s).1) :=
  congrArg Host.Outcome.next (transact_own h (by simp [hp, maxParams]) rfl hp.ge hp.le)

end Commands

/-- Settles O30: RESYNC case by case of the engine and the motion state. -/
theorem clearFaultAndResync : Obligations.ClearFaultAndResync := by
  refine ⟨fun s hs => ?_, fun s hs => ⟨fun h => ?_, fun h => ?_, fun h hm => ?_, fun h hm => ?_⟩⟩
  · rw [exec_clearFault s hs, clearFault_eq]
  · rw [exec_resync s hs, resync_noArticle s h]
  · rw [exec_resync s hs, resync_weaving s h]
  · rw [exec_resync s hs, resync_moving s h hm]
  · obtain ⟨shaft, pick, frame, store, loom, design, harness⟩ := resyncShaft_fields s
    refine ⟨resyncShaft s, ?_, shaft, pick, frame, store, loom, design, driversFollow_followDrivers _, harness⟩
    rw [exec_resync s hs, resync_still s h hm]

/-- Settles O39: the own rule's three cases, with R15 by `timing_failure_eq_none_iff`. -/
theorem setTimingCheckedAndTaken : Obligations.SetTimingCheckedAndTaken := by
  rintro p t s hs hp ht
  obtain rfl : t = timingOf p := ht
  have backOff : (timingOf p).backOff ≤ 32 := by simp [timingOf, clamp]
  rw [exec_setTiming s p hs hp]
  refine ⟨fun hm => ?_, fun hm hbad => ?_, fun hm hgood => ?_⟩
  · rw [setTiming_moving s _ hm]
  · obtain ⟨f, hf⟩ := Option.ne_none_iff_exists'.mp (mt (timing_failure_eq_none_iff _ backOff).mp hbad)
    exact ⟨f, timing_failure_le _ f hf, by rw [setTiming_range s _ f hm hf]⟩
  · rw [setTiming_taken s _ hm ((timing_failure_eq_none_iff _ backOff).mpr hgood)]
    rfl

end Sys2Proof.Proofs
end

section
/-! PROOF. SET FLOAT GUARD (spec/04): the mode by its code, the clamped limits and the clearing (R73). -/

namespace Sys2Proof.Proofs

open Sys2Proof.Machine

section FloatGuard

variable (s : State)

/-- A mode value names a float-guard mode exactly when it is that mode's code (R199). -/
theorem guardModeOf_eq_some_iff (n : Nat) (mode : GuardMode) : guardModeOf n = some mode ↔ n = mode.code := by
  constructor
  · intro h
    unfold guardModeOf at h
    split at h <;> cases h <;> rfl
  · rintro rfl
    cases mode <;> rfl

/-- Above the code of STOP no value names a mode (R199). -/
theorem guardModeOf_eq_none (n : Nat) (h : 2 < n) : guardModeOf n = none := by
  refine Option.eq_none_iff_forall_ne_some.mpr fun mode named => ?_
  have code : n = mode.code := (guardModeOf_eq_some_iff n mode).mp named
  have bound : mode.code ≤ 2 := by cases mode <;> decide
  omega

/-- SET FLOAT GUARD with a value that names no mode (R73). -/
theorem setFloatGuard_range (n up down : Nat) (h : 2 < n) :
    setFloatGuard n up down s = (s, .refused .range (.number 0)) := by
  simp [setFloatGuard, guardModeOf_eq_none n h, rangeAt]

/-- SET FLOAT GUARD with the code of a mode (R73): of the whole state only the settings and the committed state of the
hooks are written, so that the pending frame stays. -/
theorem setFloatGuard_taken (mode : GuardMode) (up down : Nat) :
    setFloatGuard mode.code up down s =
      ({ s with frame := { s.frame with
          guard := { mode := mode, up := floatLimit up, down := floatLimit down }, committed := [] } }, .done []) := by
  simp [setFloatGuard, (guardModeOf_eq_some_iff mode.code mode).mpr rfl, done]

/-- SET FLOAT GUARD on a loom link that listens (R73). -/
theorem exec_setFloatGuard (m u d : Byte) (h : s.listens .loom = true) :
    exec (.setFloatGuard .loom [m, u, d]) s =
      .next (answer .loom 0x2F (setFloatGuard m.toNat u.toNat d.toNat s).2 (setFloatGuard m.toNat u.toNat d.toNat s).1) :=
  congrArg Host.Outcome.next (transact_own h (by simp [maxParams]) rfl (Nat.le_refl 3) (Nat.le_refl 3))

end FloatGuard

/-- Settles O41: the own rule's two cases; a mode's code is the value that names it. -/
theorem setFloatGuardClears : Obligations.SetFloatGuardClears := by
  intro m u d s hs
  rw [exec_setFloatGuard s m u d hs]
  refine ⟨fun unnamed => ?_, fun mode named => ?_⟩
  · rw [setFloatGuard_range s _ _ _ unnamed]
  · have code : m.toNat = mode.code := named.trans (by cases mode <;> rfl)
    rw [code, setFloatGuard_taken]
    rfl

end Sys2Proof.Proofs
end

section
/-! PROOF. Resolving a feeder (spec/05): the two tries, which feeder is tried first, and the resolution (R88–R90). -/

namespace Sys2Proof.Proofs

open Sys2Proof.Machine

section Tries

variable {av : Vector Bool 8} {first second : Fin 8} {other : Option (Fin 8)}

/-! ## The two tries -/

/-- The feeder tried first is taken, and is no substitution. -/
theorem tryFeeders_first (h : av[first] = true) : tryFeeders av first other = (some first, false) := by
  simp only [tryFeeders, h, ↓reduceIte]

/-- The other feeder is a substitution for a first one that is out. -/
theorem tryFeeders_other (h : av[first] = false) (h' : av[second] = true) :
    tryFeeders av first (some second) = (some second, true) := by
  simp only [tryFeeders, h, h', Bool.false_eq_true, ↓reduceIte]

/-- Both feeders of an entry are out. -/
theorem tryFeeders_both_out (h : av[first] = false) (h' : av[second] = false) :
    tryFeeders av first (some second) = (none, false) := by
  simp only [tryFeeders, h, h', Bool.false_eq_true, ↓reduceIte]

/-- An entry's only feeder is out. -/
theorem tryFeeders_only_out (h : av[first] = false) : tryFeeders av first none = (none, false) := by
  simp only [tryFeeders, h, Bool.false_eq_true, ↓reduceIte]

/-- What the tries find is available. -/
theorem available_of_tryFeeders {f : Fin 8} (found : (tryFeeders av first other).1 = some f) : av[f] = true := by
  cases hfirst : av[first] with
  | true =>
    rw [tryFeeders_first hfirst] at found
    cases found
    exact hfirst
  | false =>
    cases other with
    | none =>
      rw [tryFeeders_only_out hfirst] at found
      cases found
    | some second =>
      cases hsecond : av[second] with
      | true =>
        rw [tryFeeders_other hfirst hsecond] at found
        cases found
        exact hsecond
      | false =>
        rw [tryFeeders_both_out hfirst hsecond] at found
        cases found

end Tries

section Resolution

variable {e : FeederEntry} {turn : Alternation} {av : Vector Bool 8}

/-! ## Which feeder is tried first -/

/-- A SINGLE entry, one without an alternate, and PRIMARY NEXT try the primary first (R89, R90). -/
theorem resolveFeeder_primary_first (h : e.mode = .single ∨ e.alternate = none ∨ turn = .primaryNext) :
    resolveFeeder (some e) turn av = tryFeeders av e.primary e.alternate := by
  rcases h with h | h | h <;> simp [resolveFeeder, h]

/-- ALTERNATE NEXT in an ALTERNATE entry with an alternate tries the alternate first (R90). -/
theorem resolveFeeder_alternate_first {a : Fin 8} (hm : e.mode = .alternate) (ha : e.alternate = some a)
    (ht : turn = .alternateNext) : resolveFeeder (some e) turn av = tryFeeders av a (some e.primary) := by
  simp only [resolveFeeder, hm, ha, ht]

/-- Every resolution is the two tries, in one order or the other. -/
theorem exists_resolveFeeder_eq_tryFeeders (e : FeederEntry) (turn : Alternation) (av : Vector Bool 8) :
    ∃ first other, resolveFeeder (some e) turn av = tryFeeders av first other := by
  cases hm : e.mode with
  | single => exact ⟨_, _, resolveFeeder_primary_first (.inl hm)⟩
  | alternate =>
    cases ha : e.alternate with
    | none => exact ⟨_, _, resolveFeeder_primary_first (.inr (.inl ha))⟩
    | some a =>
      cases turn with
      | primaryNext => exact ⟨_, _, resolveFeeder_primary_first (.inr (.inr rfl))⟩
      | alternateNext => exact ⟨_, _, resolveFeeder_alternate_first hm ha rfl⟩

/-- What a resolution finds is available. -/
theorem available_of_resolveFeeder {f : Fin 8} (found : (resolveFeeder (some e) turn av).1 = some f) :
    av[f] = true := by
  obtain ⟨first, other, tries⟩ := exists_resolveFeeder_eq_tryFeeders e turn av
  exact available_of_tryFeeders (tries ▸ found)

end Resolution

/-- Settles O60: which feeder is tried first, then the outcomes of the two tries. -/
theorem feederResolution : Obligations.FeederResolution := by
  intro e turn av
  refine ⟨fun hprimary => ?_, fun a hm ha ht => ?_, fun f => available_of_resolveFeeder⟩
  · rw [resolveFeeder_primary_first hprimary]
    refine ⟨tryFeeders_first, fun a out ha => ?_, fun a out ha => ?_, fun out hnone => ?_⟩
    · rw [ha]
      exact tryFeeders_other out
    · rw [ha]
      exact tryFeeders_both_out out
    · rw [hnone]
      exact tryFeeders_only_out out
  · rw [resolveFeeder_alternate_first hm ha ht]
    exact ⟨tryFeeders_first, tryFeeders_other, tryFeeders_both_out⟩

end Sys2Proof.Proofs
end

section
/-! PROOF. The harness claim and the locks (spec/07): the cases of CLAIM HARNESS, DISCARD HARNESS and BREAK CLAIM, and
the rows of the loom link that set and clear a lock (R130, R138–R141). -/

namespace Sys2Proof.Proofs

open Sys2Proof.Machine

section Claims

variable (k : Link) (s : State)

/-! ## CLAIM HARNESS (R130) -/

/-- While nobody holds the claim no link has a shadow. -/
theorem shadowOf_of_unclaimed (free : s.harness.claim = none) : s.shadowOf k = none := by
  simp [State.shadowOf, free]

/-- CLAIM HARNESS from the link that holds the claim does nothing. -/
theorem claimHarness_holder (holds : (s.shadowOf k).isSome = true) : claimHarness k s = (s, .done []) := by
  simp [claimHarness, holds, done]

/-- CLAIM HARNESS under a lock. -/
theorem claimHarness_locked (lacks : s.shadowOf k = none) (locked : s.harness.locked = true) :
    claimHarness k s = (s, .refused .locked .none) := by
  simp [claimHarness, lacks, locked, refuse]

/-- CLAIM HARNESS while the other link holds the claim. -/
theorem claimHarness_claimed (lacks : s.shadowOf k = none) (unlocked : s.harness.locked = false)
    (held : s.harness.claim.isSome = true) : claimHarness k s = (s, .refused .claimed .none) := by
  simp [claimHarness, lacks, unlocked, held, refuse]

/-- CLAIM HARNESS while nobody holds the claim and no lock is set: the shadow starts as the live table. -/
theorem claimHarness_taken (unlocked : s.harness.locked = false) (free : s.harness.claim = none) :
    claimHarness k s = (setShadow k s.harness.live s, .done []) := by
  simp [claimHarness, shadowOf_of_unclaimed k s free, unlocked, free, done]

/-! ## DISCARD HARNESS and BREAK CLAIM (R138, R139) -/

/-- DISCARD HARNESS from a link that does not hold the claim. -/
theorem discardHarness_notClaimed (lacks : s.shadowOf k = none) :
    discardHarness k s = (s, .refused .notClaimed .none) := by
  simp [discardHarness, lacks, refuse]

/-- DISCARD HARNESS from the holder drops the claim and tells the other link. -/
theorem discardHarness_holder (holds : (s.shadowOf k).isSome = true) :
    discardHarness k s = (raise (otherLink k) .claimFreed (dropClaim s), .done []) := by
  simp [discardHarness, holds, done]

/-- BREAK CLAIM drops a claim, whoever holds it, and tells the design link. -/
theorem breakClaim_claimed (held : s.harness.claim.isSome = true) :
    breakClaim s = raise .design .claimFreed (dropClaim s) := by
  simp [breakClaim, held]

/-- BREAK CLAIM without a claim does nothing. -/
theorem breakClaim_unclaimed (free : s.harness.claim = none) : breakClaim s = s := by simp [breakClaim, free]

/-! ## The rows on a link that listens -/

/-- A command of both links without parameters is answered by its own rule on the link that takes it (R182). -/
theorem transact_both_bare (code : Byte) (own : State → State × Reply) (h : s.listens k = true) :
    transact k code .both 0 0 [] own s = answer k code (own s).2 (own s).1 :=
  transact_own h (Nat.zero_le _) rfl (Nat.le_refl 0) (Nat.le_refl 0)

/-- CLAIM HARNESS on a link that listens (R130). -/
theorem exec_claimHarness (h : s.listens k = true) :
    exec (.claimHarness k []) s = .next (answer k 0x09 (claimHarness k s).2 (claimHarness k s).1) :=
  congrArg Host.Outcome.next (transact_both_bare k s 0x09 (claimHarness k) h)

/-- DISCARD HARNESS on a link that listens (R138). -/
theorem exec_discardHarness (h : s.listens k = true) :
    exec (.discardHarness k []) s = .next (answer k 0x0E (discardHarness k s).2 (discardHarness k s).1) :=
  congrArg Host.Outcome.next (transact_both_bare k s 0x0E (discardHarness k) h)

/-- BREAK CLAIM on a loom link that listens (R139). -/
theorem exec_breakClaim (h : s.listens .loom = true) :
    exec (.breakClaim .loom []) s = .next (answer .loom 0x34 (.done []) (breakClaim s)) :=
  congrArg Host.Outcome.next (transact_loom_bare s 0x34 (fun s => done (breakClaim s)) h)

/-- LOCK KEEP on a loom link that listens (R140). -/
theorem exec_lockKeep (h : s.listens .loom = true) :
    exec (.lockKeep .loom []) s = .next (answer .loom 0x31 (.done []) { s with harness.keep := true }) :=
  congrArg Host.Outcome.next (transact_loom_bare s 0x31 (fun s => done { s with harness.keep := true }) h)

/-- UNLOCK on a loom link that listens (R140). -/
theorem exec_unlock (h : s.listens .loom = true) :
    exec (.unlock .loom []) s = .next (answer .loom 0x32 (.done []) { s with harness.keep := false }) :=
  congrArg Host.Outcome.next (transact_loom_bare s 0x32 (fun s => done { s with harness.keep := false }) h)

/-- LOCK FIXED on a loom link that listens (R141). -/
theorem exec_lockFixed (h : s.listens .loom = true) :
    exec (.lockFixed .loom []) s = .next (answer .loom 0x33 (.done []) { s with harness.fixed := true }) :=
  congrArg Host.Outcome.next (transact_loom_bare s 0x33 (fun s => done { s with harness.fixed := true }) h)

end Claims

/-- Settles O27: each row through its link, then the case of its own rule. -/
theorem harnessClaimAndLockCommands : Obligations.HarnessClaimAndLockCommands := by
  intro k s
  refine ⟨fun hs holds => ?_, fun hs lacks locked => ?_, fun hs lacks unlocked held => ?_, fun hs unlocked free => ?_,
    fun hs lacks => ?_, fun hs holds => ?_, fun hs held => ?_, fun hs free => ?_,
    fun hs => ⟨exec_lockKeep s hs, exec_unlock s hs, exec_lockFixed s hs⟩⟩
  · rw [exec_claimHarness k s hs, claimHarness_holder k s holds]
  · rw [exec_claimHarness k s hs, claimHarness_locked k s lacks locked]
  · rw [exec_claimHarness k s hs, claimHarness_claimed k s lacks unlocked held]
  · rw [exec_claimHarness k s hs, claimHarness_taken k s unlocked free, setShadow]
  · rw [exec_discardHarness k s hs, discardHarness_notClaimed k s lacks]
  · rw [exec_discardHarness k s hs, discardHarness_holder k s holds, dropClaim]
  · rw [exec_breakClaim s hs, breakClaim_claimed s held, dropClaim]
  · rw [exec_breakClaim s hs, breakClaim_unclaimed s free]

end Sys2Proof.Proofs
end

section
/-! PROOF. The banks as their state goes (spec/08): OPEN ARTICLE, REOPEN and DISCARD BANK (R147, R148, R154), ARM with
the install, and DISARM (R151–R153). -/

namespace Sys2Proof.Proofs

open Sys2Proof.Machine

section BankCommands

variable {s : State} (b : BankId)

/-! ## The rows of the design link that name a bank, on a link that listens -/

/-- A command of the design link that names a bank and has a length it can carry is answered by its own rule (R182). -/
theorem transact_bank (code : Byte) (lo hi : Nat) (rest : List Byte) (own : BankId → State → State × Reply)
    (h : s.listens .design = true) (hlo : lo ≤ rest.length + 1) (hhi : rest.length + 1 ≤ hi) (hmax : hi ≤ maxParams) :
    transact .design code .designOnly lo hi (BitVec.ofNat 8 (bankCode b) :: rest)
        (withBank (BitVec.ofNat 8 (bankCode b) :: rest) own) s =
      answer .design code (own b s).2 (own b s).1 := by
  rw [transact_own (p := BitVec.ofNat 8 (bankCode b) :: rest) h (hhi.trans hmax) rfl hlo hhi, withBank_of]

/-- A command of the design link whose one parameter is the bank is answered by its own rule (R182). -/
theorem transact_bank_only (code : Byte) (own : BankId → State → State × Reply) (h : s.listens .design = true) :
    transact .design code .designOnly 1 1 [BitVec.ofNat 8 (bankCode b)] (withBank [BitVec.ofNat 8 (bankCode b)] own) s =
      answer .design code (own b s).2 (own b s).1 :=
  transact_bank b code 1 1 [] own h (Nat.le_refl 1) (Nat.le_refl 1) (by decide)

/-- OPEN ARTICLE on a design link that listens (R147). -/
theorem exec_openArticle (w1 w0 h1 h0 f : Byte) (h : s.listens .design = true) :
    let p := [BitVec.ofNat 8 (bankCode b), w1, w0, h1, h0, f]
    exec (.openArticle .design p) s = .next (answer .design 0x40 (openArticle p b s).2 (openArticle p b s).1) :=
  congrArg Host.Outcome.next
    (transact_bank b 0x40 6 6 [w1, w0, h1, h0, f] (openArticle _) h (Nat.le_refl 6) (Nat.le_refl 6) (by decide))

/-- REOPEN on a design link that listens (R148). -/
theorem exec_reopen (h : s.listens .design = true) :
    exec (.reopen .design [BitVec.ofNat 8 (bankCode b)]) s =
      .next (answer .design 0x41 (reopenBank b s).2 (reopenBank b s).1) :=
  congrArg Host.Outcome.next (transact_bank_only b 0x41 reopenBank h)

/-- ARM on a design link that listens (R151). -/
theorem exec_arm (h : s.listens .design = true) :
    exec (.arm .design [BitVec.ofNat 8 (bankCode b)]) s =
      .next (answer .design 0x47 (armBank b s).2 (armBank b s).1) :=
  congrArg Host.Outcome.next (transact_bank_only b 0x47 armBank h)

/-- DISARM on a design link that listens (R153). -/
theorem exec_disarm (h : s.listens .design = true) :
    exec (.disarm .design [BitVec.ofNat 8 (bankCode b)]) s =
      .next (answer .design 0x48 (disarmBank b s).2 (disarmBank b s).1) :=
  congrArg Host.Outcome.next (transact_bank_only b 0x48 disarmBank h)

/-- DISCARD BANK on a design link that listens (R154). -/
theorem exec_discardBank (h : s.listens .design = true) :
    exec (.discardBank .design [BitVec.ofNat 8 (bankCode b)]) s =
      .next (answer .design 0x49 (discardBank b s).2 (discardBank b s).1) :=
  congrArg Host.Outcome.next (transact_bank_only b 0x49 discardBank h)

end BankCommands

section Readback

variable (b : BankId) (s : State)

/-! ## Emptying the readback buffer and the load queue (R162, R165) -/

/-- A readback buffer that names another bank, or none, stays (R165). -/
theorem emptyReadback_of_not_names (h : s.store.readback.names b = false) : emptyReadback b s = s := by
  simp [emptyReadback, h]

/-- A readback buffer that names the bank is emptied (R165). -/
theorem emptyReadback_of_names (h : s.store.readback.names b = true) :
    (emptyReadback b s).store.readback = .empty := by
  simp [emptyReadback, h]

/-- Emptying the readback buffer writes the buffer and the port alone (R165). -/
@[simp] theorem emptyReadback_keeps :
    (emptyReadback b s).shaft = s.shaft ∧ (emptyReadback b s).pick = s.pick ∧ (emptyReadback b s).frame = s.frame ∧
      (emptyReadback b s).harness = s.harness ∧ (emptyReadback b s).loom = s.loom ∧
      (emptyReadback b s).design = s.design ∧ (emptyReadback b s).store.bankA = s.store.bankA ∧
      (emptyReadback b s).store.bankB = s.store.bankB ∧ (emptyReadback b s).store.queue = s.store.queue ∧
      (emptyReadback b s).store.memory = s.store.memory := by
  unfold emptyReadback
  split <;> simp

/-- Emptying the readback buffer leaves both banks (R165). -/
@[simp] theorem bank_emptyReadback (k : BankId) : (emptyReadback b s).bank k = s.bank k :=
  bank_congr (by simp) (by simp) k

/-- Dropping the load queue leaves every block but the store and the design link, and of the store the banks, the
readback buffer and pattern memory (R162). -/
@[simp] theorem dropQueue_keeps :
    (dropQueue s).shaft = s.shaft ∧ (dropQueue s).pick = s.pick ∧ (dropQueue s).frame = s.frame ∧
      (dropQueue s).harness = s.harness ∧ (dropQueue s).loom = s.loom ∧ (dropQueue s).store.bankA = s.store.bankA ∧
      (dropQueue s).store.bankB = s.store.bankB ∧ (dropQueue s).store.readback = s.store.readback ∧
      (dropQueue s).store.memory = s.store.memory ∧ (dropQueue s).store.queue = [] := by
  simp [dropQueue]

/-- Dropping the load queue leaves both banks (R162). -/
@[simp] theorem bank_dropQueue (k : BankId) : (dropQueue s).bank k = s.bank k := bank_congr (by simp) (by simp) k

/-- Dropping a full load queue raises QUEUE SPACE, event 7 of the design link (R162, R191). -/
theorem dropQueue_queueSpace :
    (dropQueue s).design.flags[7] = (s.design.flags[7] || s.store.queue.length == 4) := by
  have bit : (eventBit .design .queueSpace)[7] = true := rfl
  unfold dropQueue
  cases h : s.store.queue.length == 4 <;> simp [bit]

end Readback

section Opening

variable {p : List Byte} {b : BankId} {s : State}

/-! ## OPEN ARTICLE (R147) -/

/-- A bank is being loaded exactly while it is OPEN or CLOSING. -/
theorem beingLoaded_iff (x : BankState) : x.beingLoaded = true ↔ x = .opened ∨ x = .closing := by
  cases x <;> simp [BankState.beingLoaded]

/-- OPEN ARTICLE may take the bank: it is EMPTY, READY or RETIRED, beside a bank that is not being loaded (R147). -/
def Openable (b : BankId) (s : State) : Prop :=
  ((s.bank b).state = .empty ∨ (s.bank b).state = .ready ∨ (s.bank b).state = .retired) ∧
    (s.bank (otherBank b)).state ≠ .opened ∧ (s.bank (otherBank b)).state ≠ .closing

/-- The model's test of the two bank states at OPEN ARTICLE is the negation of `Openable`. -/
theorem opening_blocked_iff :
    ((s.bank b).state.beingLoaded || (s.bank b).state == .armed || (s.bank b).state == .weaving ||
      (s.bank (otherBank b)).state.beingLoaded) = true ↔ ¬ Openable b s := by
  simp only [Bool.or_eq_true, beq_iff_eq, beingLoaded_iff, Openable]
  cases (s.bank b).state <;> simp [or_iff_not_imp_left]

/-- OPEN ARTICLE of a bank it may not take. -/
theorem openArticle_bankState (blocked : ¬ Openable b s) : openArticle p b s = (s, .refused .bankState .none) :=
  if_pos (opening_blocked_iff.mpr blocked)

/-- A bank that OPEN ARTICLE may take passes the test of the two bank states. -/
theorem opening_passes (free : Openable b s) :
    ((s.bank b).state.beingLoaded || (s.bank b).state == .armed || (s.bank b).state == .weaving ||
      (s.bank (otherBank b)).state.beingLoaded) = false :=
  Bool.eq_false_iff.mpr (mt opening_blocked_iff.mp (not_not.mpr free))

/-- OPEN ARTICLE with a width outside its range. -/
theorem openArticle_width (free : Openable b s) (hw : wordAt p 1 < 8 ∨ 8192 < wordAt p 1) :
    openArticle p b s = (s, .refused .range (.number 1)) := by
  simp only [openArticle, opening_passes free, hw, rangeAt, Bool.false_eq_true, if_false, if_true]

/-- OPEN ARTICLE with a height outside its range. -/
theorem openArticle_height (free : Openable b s) (hw : 8 ≤ wordAt p 1 ∧ wordAt p 1 ≤ 8192)
    (hh : wordAt p 3 < 1 ∨ 8192 < wordAt p 3) : openArticle p b s = (s, .refused .range (.number 2)) := by
  have width : ¬ (wordAt p 1 < 8 ∨ 8192 < wordAt p 1) := by omega
  simp only [openArticle, opening_passes free, width, hh, rangeAt, Bool.false_eq_true, if_false, if_true]

/-- The code of a face names it (R199). -/
theorem faceOf_code (f : Face) : faceOf f.code = some f := by cases f <;> rfl

/-- Above the code of DOWN no value names a face (R199). -/
theorem faceOf_eq_none {n : Nat} (h : 1 < n) : faceOf n = none := by
  match n, h with
  | _ + 2, _ => rfl

/-- OPEN ARTICLE with a value that names no face. -/
theorem openArticle_face (free : Openable b s) (hw : 8 ≤ wordAt p 1 ∧ wordAt p 1 ≤ 8192)
    (hh : 1 ≤ wordAt p 3 ∧ wordAt p 3 ≤ 8192) (hf : 1 < byteAt p 5) :
    openArticle p b s = (s, .refused .range (.number 3)) := by
  have width : ¬ (wordAt p 1 < 8 ∨ 8192 < wordAt p 1) := by omega
  have height : ¬ (wordAt p 3 < 1 ∨ 8192 < wordAt p 3) := by omega
  simp only [openArticle, opening_passes free, width, height, faceOf_eq_none hf, rangeAt, Bool.false_eq_true, if_false]

/-- OPEN ARTICLE that is taken (R147). -/
theorem openArticle_taken (free : Openable b s) (hw : 8 ≤ wordAt p 1 ∧ wordAt p 1 ≤ 8192)
    (hh : 1 ≤ wordAt p 3 ∧ wordAt p 3 ≤ 8192) (f : Face) (hf : byteAt p 5 = f.code) :
    openArticle p b s =
      (emptyReadback b (s.setBank b
        { state := .opened, record := some (Article.fresh (wordAt p 1) (wordAt p 3) f), closeResult := .none }),
        .done []) := by
  have width : ¬ (wordAt p 1 < 8 ∨ 8192 < wordAt p 1) := by omega
  have height : ¬ (wordAt p 3 < 1 ∨ 8192 < wordAt p 3) := by omega
  simp only [openArticle, opening_passes free, width, height, hf, faceOf_code, done, Bool.false_eq_true, if_false]

end Opening

/-- Settles O43: the own rule field by field; what is taken leaves all but the bank and the readback buffer. -/
theorem openArticleMakesANewRecord : Obligations.OpenArticleMakesANewRecord := by
  intro b w1 w0 h1 h0 f w h s hw hh hs
  obtain rfl : w = wordAt [BitVec.ofNat 8 (bankCode b), w1, w0, h1, h0, f] 1 := hw
  obtain rfl : h = wordAt [BitVec.ofNat 8 (bankCode b), w1, w0, h1, h0, f] 3 := hh
  dsimp only
  rw [exec_openArticle b w1 w0 h1 h0 f hs]
  refine ⟨fun blocked => ?_, fun free hw => ?_, fun free hlo hhi hh => ?_, fun free hlo hhi hlo' hhi' hf => ?_,
    fun face free hlo hhi hlo' hhi' hf => ?_⟩
  · rw [openArticle_bankState blocked]
  · rw [openArticle_width free hw]
  · rw [openArticle_height free ⟨hlo, hhi⟩ hh]
  · rw [openArticle_face free ⟨hlo, hhi⟩ ⟨hlo', hhi'⟩ hf]
  · have code : f.toNat = face.code := hf.trans (by cases face <;> rfl)
    rw [openArticle_taken free ⟨hlo, hhi⟩ ⟨hlo', hhi'⟩ face code]
    refine ⟨_, rfl, by simp [Article.fresh], by simp, by simp, by simp, fun named => ?_, fun other => ?_, by simp⟩
    · exact emptyReadback_of_names _ _ (by simpa using named)
    · rw [emptyReadback_of_not_names _ _ (by simpa using other)]
      simp

section Reopening

variable {b : BankId} {s : State}

/-! ## REOPEN (R148) -/

/-- The bank states that refuse REOPEN (R148). -/
theorem reopening_blocked_iff :
    ((s.bank b).state == .empty || (s.bank b).state.beingLoaded || (s.bank b).state == .weaving ||
        (s.bank (otherBank b)).state.beingLoaded) = true ↔
      ((s.bank b).state = .empty ∨ (s.bank b).state = .opened ∨ (s.bank b).state = .closing ∨
        (s.bank b).state = .weaving ∨ (s.bank (otherBank b)).state = .opened ∨
        (s.bank (otherBank b)).state = .closing) := by
  simp only [Bool.or_eq_true, beq_iff_eq, beingLoaded_iff]
  tauto

/-- REOPEN of a bank that is EMPTY, being loaded or WEAVING, or beside one that is being loaded. -/
theorem reopenBank_bankState
    (blocked : (s.bank b).state = .empty ∨ (s.bank b).state = .opened ∨ (s.bank b).state = .closing ∨
      (s.bank b).state = .weaving ∨ (s.bank (otherBank b)).state = .opened ∨
      (s.bank (otherBank b)).state = .closing) : reopenBank b s = (s, .refused .bankState .none) :=
  if_pos (reopening_blocked_iff.mpr blocked)

/-- REOPEN of a bank that is READY, RETIRED or ARMED, beside one that is not being loaded, waits only for a frame that
carries the swap mark. -/
theorem reopenBank_unblocked
    (closed : (s.bank b).state = .ready ∨ (s.bank b).state = .retired ∨ (s.bank b).state = .armed)
    (notOpened : (s.bank (otherBank b)).state ≠ .opened) (notClosing : (s.bank (otherBank b)).state ≠ .closing) :
    reopenBank b s =
      if (s.bank b).state == .armed && s.swapPending then refuse .bankInUse s
      else
        done (raiseIf ((s.bank b).state == .armed) .design .disarmed
          (s.setBank b { ((s.bank b).withRetained none) with state := .opened, closeResult := .none })) := by
  refine if_neg (mt reopening_blocked_iff.mp ?_)
  rcases closed with h | h | h <;> simp [h, notOpened, notClosing]

/-- REOPEN of an ARMED bank while a frame that carries the swap mark is pending. -/
theorem reopenBank_bankInUse (armed : (s.bank b).state = .armed) (notOpened : (s.bank (otherBank b)).state ≠ .opened)
    (notClosing : (s.bank (otherBank b)).state ≠ .closing) (pending : s.swapPending = true) :
    reopenBank b s = (s, .refused .bankInUse .none) := by
  rw [reopenBank_unblocked (.inr (.inr armed)) notOpened notClosing, if_pos (by simp [armed, pending]), refuse]

/-- REOPEN that is taken keeps the record and drops its retained position (R148). -/
theorem reopenBank_taken {a : Article} (record : (s.bank b).record = some a)
    (notOpened : (s.bank (otherBank b)).state ≠ .opened) (notClosing : (s.bank (otherBank b)).state ≠ .closing)
    (free : (s.bank b).state = .ready ∨ (s.bank b).state = .retired ∨
      ((s.bank b).state = .armed ∧ s.swapPending = false)) :
    reopenBank b s =
      (raiseIf ((s.bank b).state == .armed) .design .disarmed
        (s.setBank b { state := .opened, closeResult := .none, record := some { a with retained := none } }),
        .done []) := by
  have closed : (s.bank b).state = .ready ∨ (s.bank b).state = .retired ∨ (s.bank b).state = .armed := by tauto
  have notPending : ((s.bank b).state == .armed && s.swapPending) = false := by
    rcases free with h | h | ⟨h, h'⟩ <;> simp [*]
  simp [reopenBank_unblocked closed notOpened notClosing, notPending, record, done]

end Reopening

section Discarding

variable {b : BankId} {s : State}

/-! ## DISCARD BANK (R154) -/

/-- DISCARD BANK of a WEAVING bank. -/
theorem discardBank_weaving (h : (s.bank b).state = .weaving) : discardBank b s = (s, .refused .bankState .none) := by
  simp [discardBank, h, refuse]

/-- DISCARD BANK of a bank that is CLOSING, or ARMED with a swap-marked frame pending. -/
theorem discardBank_bankInUse
    (h : (s.bank b).state = .closing ∨ ((s.bank b).state = .armed ∧ s.swapPending = true)) :
    discardBank b s = (s, .refused .bankInUse .none) := by
  rcases h with h | ⟨h, pending⟩
  · simp [discardBank, h, refuse]
  · simp [discardBank, h, pending, refuse]

/-- DISCARD BANK of an EMPTY bank does nothing. -/
theorem discardBank_empty (h : (s.bank b).state = .empty) : discardBank b s = (s, .done []) := by
  simp [discardBank, h, done]

/-- DISCARD BANK of an OPEN bank drops the load queue with it (R154, R162). -/
theorem discardBank_opened (h : (s.bank b).state = .opened) :
    discardBank b s = (emptyReadback b ((dropQueue s).setBank b Bank.reset), .done []) := by
  simp [discardBank, h, done]

/-- DISCARD BANK of a bank that is READY or RETIRED, or ARMED with no swap-marked frame pending. -/
theorem discardBank_closed (h : (s.bank b).state = .ready ∨ (s.bank b).state = .retired ∨
      ((s.bank b).state = .armed ∧ s.swapPending = false)) :
    discardBank b s = (emptyReadback b (s.setBank b Bank.reset), .done []) := by
  rcases h with h | h | ⟨h, notPending⟩
  · simp [discardBank, h, done]
  · simp [discardBank, h, done]
  · simp [discardBank, h, notPending, done]

/-- A bank emptied with the readback buffer keeps everything else (R154, R165). -/
theorem emptyReadback_reset (t : State) :
    let u := emptyReadback b (t.setBank b Bank.reset)
    u.bank b = { state := .empty, record := none, closeResult := .none } ∧
      u.bank (otherBank b) = t.bank (otherBank b) ∧ u.store.memory = t.store.memory ∧
      (t.store.readback.names b = true → u.store.readback = .empty) ∧
      (t.store.readback.names b = false → u.store.readback = t.store.readback) ∧
      u.store.queue = t.store.queue ∧ u.design = t.design ∧
      u.shaft = t.shaft ∧ u.pick = t.pick ∧ u.frame = t.frame ∧ u.harness = t.harness ∧ u.loom = t.loom := by
  refine ⟨by simp [Bank.reset], by simp, by simp, fun named => ?_, fun other => ?_, by simp⟩
  · exact emptyReadback_of_names _ _ (by simpa using named)
  · rw [emptyReadback_of_not_names _ _ (by simpa using other)]
    simp

end Discarding

/-- Settles O44: REOPEN and DISCARD BANK by the state of the bank; an OPEN bank takes its load queue with it. -/
theorem reopenAndDiscardBank : Obligations.ReopenAndDiscardBank := by
  intro b s hs
  dsimp only
  rw [exec_reopen b hs, exec_discardBank b hs]
  refine ⟨fun blocked => ?_, fun armed notOpened notClosing pending => ?_,
    fun a record notOpened notClosing free => ?_, fun weaving => ?_, fun inUse => ?_, fun empty => ?_, fun free => ?_⟩
  · rw [reopenBank_bankState blocked]
  · rw [reopenBank_bankInUse armed notOpened notClosing pending]
  · rw [reopenBank_taken record notOpened notClosing free]
  · rw [discardBank_weaving weaving]
  · rw [discardBank_bankInUse inUse]
  · rw [discardBank_empty empty]
  · rcases free with opened | closed
    · obtain ⟨bank, other, memory, named, unnamed, queue, design, rest⟩ := emptyReadback_reset (b := b) (dropQueue s)
      simp only [dropQueue_keeps, bank_dropQueue] at *
      rw [discardBank_opened opened]
      refine ⟨_, rfl, bank, other, memory, named, unnamed, absurd opened, fun _ => ⟨queue, ?_⟩, rest⟩
      rw [design]
      simpa using dropQueue_queueSpace s
    · obtain ⟨bank, other, memory, named, unnamed, queue, design, rest⟩ := emptyReadback_reset (b := b) s
      have notOpened : (s.bank b).state ≠ .opened := by rcases closed with h | h | ⟨h, -⟩ <;> simp [h]
      rw [discardBank_closed closed]
      exact ⟨_, rfl, bank, other, memory, named, unnamed, fun _ => ⟨queue, design⟩, (absurd · notOpened), rest⟩

section ReformKeeps

variable (s : State)

/-! ## What a re-form that starts, completes or waits leaves of the weaving bank, the committed state and the stage -/

/-- A refused swap leaves the bank that weaves (R37). -/
@[simp] theorem bank_refuseSwap_other (b : BankId) : (refuseSwap (otherBank b) s).bank b = s.bank b := by
  cases b <;> rfl

/-- The start of a forward frame leaves the banks (R104). -/
@[simp] theorem bank_beginForward (p : Position) (swap : Bool) (k : BankId) :
    (beginForward p swap s).bank k = s.bank k := bank_congr (by simp) (by simp) k

/-- An assembly start leaves the banks (R109). -/
@[simp] theorem bank_beginFrame (kind : FrameKind) (p : Position) (swap : Bool) (n : Nat) (k : BankId) :
    (beginFrame kind p swap n s).bank k = s.bank k := bank_congr (by simp) (by simp) k

/-- A discard leaves the banks (R108). -/
@[simp] theorem bank_discard (k : BankId) : (discard s).bank k = s.bank k := bank_congr (by simp) (by simp) k

/-- The latch of a re-form leaves the banks (R115). -/
@[simp] theorem bank_takeReform (d : Descriptor) (c : Cause) (k : BankId) : (takeReform d c s).bank k = s.bank k :=
  bank_congr (by simp) (by simp) k

/-- Starting the next forward frame may refuse a swap, which leaves the bank that weaves (R35–R37). -/
theorem bank_startForward {p : Position} (hp : s.pick.position = some p) :
    (startForward s).bank p.bank = s.bank p.bank := by
  unfold startForward
  rw [hp]
  dsimp only
  split
  · split
    · simp
    · split <;> simp
  · rfl

/-- The completion of a re-form leaves the bank that weaves (R105, R115). -/
theorem bank_completeReform {p : Position} (hp : s.pick.position = some p) :
    (completeReform s).bank p.bank = s.bank p.bank := by
  unfold completeReform
  split
  · split
    · rw [bank_startForward _ (by simpa using hp), bank_takeReform]
    · rfl
  · rfl

/-- A re-form that starts leaves the bank that weaves (R106). -/
theorem bank_beginReform {p : Position} (c : Cause) (hp : s.pick.position = some p) :
    (beginReform c s).bank p.bank = s.bank p.bank := by
  unfold beginReform
  rw [hp]
  dsimp only
  split
  · rw [bank_completeReform _ (by simpa using hp)]
    simp
  · simp

/-- The completion of a re-form leaves the hooks without a committed state and the stage RUN, where they were so (R80,
R122). -/
theorem completeReform_fresh (hc : s.frame.committed = []) (hr : s.harness.stage = .run) :
    (completeReform s).frame.committed = [] ∧ (completeReform s).harness.stage = .run := by
  unfold completeReform
  split
  · split
    · simp [takeReform]
    · exact ⟨hc, hr⟩
  · exact ⟨hc, hr⟩

/-- A re-form that starts leaves the hooks without a committed state and the stage RUN, where they were so. -/
theorem beginReform_fresh (c : Cause) (hc : s.frame.committed = []) (hr : s.harness.stage = .run) :
    (beginReform c s).frame.committed = [] ∧ (beginReform c s).harness.stage = .run := by
  unfold beginReform
  split
  · exact ⟨hc, hr⟩
  · dsimp only
    split
    · exact completeReform_fresh _ (by simpa using hc) (by simpa using hr)
    · simp [hc, hr]

/-- While the shaft is REFERENCED a re-form starts at once (R106). -/
theorem startReform_of_referenced (c : Cause) (h : s.shaft.reference = .referenced) :
    startReform c s = beginReform c s := if_pos h

/-- Outside REFERENCED a re-form is owed (R107). -/
theorem startReform_of_not_referenced (c : Cause) (h : s.shaft.reference ≠ .referenced) :
    startReform c s = { s with frame.owed := some c } := if_neg h

/-- A re-form started or owed leaves the bank that weaves, and what was fresh of the committed state and the stage. -/
theorem startReform_fresh {p : Position} (c : Cause) (hp : s.pick.position = some p) (hc : s.frame.committed = [])
    (hr : s.harness.stage = .run) :
    (startReform c s).bank p.bank = s.bank p.bank ∧ (startReform c s).frame.committed = [] ∧
      (startReform c s).harness.stage = .run := by
  by_cases h : s.shaft.reference = .referenced
  · rw [startReform_of_referenced s c h]
    exact ⟨bank_beginReform s c hp, beginReform_fresh s c hc hr⟩
  · rw [startReform_of_not_referenced s c h]
    exact ⟨rfl, hc, hr⟩

end ReformKeeps

section Arming

variable {b : BankId} {s : State}

/-! ## ARM, the install and DISARM (R151–R153) -/

/-- The state an install re-forms: the bank WEAVING at its first pick, with fresh alternation and float states, no
latched selection and the standstill timer restarted (R41, R103, R122, R152). -/
def weavingAtFirst (b : BankId) (s : State) : State :=
  let t := s.setBank b ((s.bank b).withState .weaving)
  restartStandstill (followStop
    { t with
      pick := { t.pick with
        engine := if t.shaft.reference = .lost then .unsynchronised else .weaving
        position := some (Position.first b)
        reforming := false
        exchangeNote := false }
      frame := { t.frame with
        alternation := freshAlternation
        committed := []
        latchedDesc := none
        pickFeeder := .noFrame
        latched := .empty } })

/-- An install is a re-form of the first pick of the bank (R152). -/
theorem install_eq (b : BankId) (s : State) : install b s = startReform .reform (weavingAtFirst b s) := rfl

/-- What an install writes before its re-form. -/
@[simp] theorem weavingAtFirst_fields (b : BankId) (s : State) :
    (weavingAtFirst b s).shaft = s.shaft ∧
      (weavingAtFirst b s).pick.engine = (if s.shaft.reference = .lost then .unsynchronised else .weaving) ∧
      (weavingAtFirst b s).pick.position = some { bank := b, line := 0, step := 0, rep := 0 } ∧
      (weavingAtFirst b s).pick.counter = s.pick.counter ∧
      (weavingAtFirst b s).frame.alternation = Vector.replicate 8 .primaryNext ∧
      (weavingAtFirst b s).frame.committed = [] ∧ (weavingAtFirst b s).frame.latchedDesc = none ∧
      (weavingAtFirst b s).frame.pickFeeder = .noFrame ∧
      (weavingAtFirst b s).frame.latched = Vector.replicate 8 none ∧
      (weavingAtFirst b s).harness.live = s.harness.live ∧ (weavingAtFirst b s).harness.stage = .run ∧
      (weavingAtFirst b s).bank b = (s.bank b).withState .weaving ∧
      (weavingAtFirst b s).bank (otherBank b) = s.bank (otherBank b) := by
  cases b <;> exact ⟨rfl, rfl, rfl, rfl, rfl, rfl, rfl, rfl, rfl, rfl, rfl, rfl, rfl⟩

/-- What an install makes of the engine, the bank and the blocks, in every state of the shaft (R152). -/
theorem install_fields (b : BankId) (s : State) :
    (install b s).pick.position = some { bank := b, line := 0, step := 0, rep := 0 } ∧
      (install b s).pick.engine = (if s.shaft.reference = .lost then .unsynchronised else .weaving) ∧
      ((install b s).bank b).state = .weaving ∧ ((install b s).bank b).record = (s.bank b).record ∧
      (install b s).frame.alternation = Vector.replicate 8 .primaryNext ∧ (install b s).frame.committed = [] ∧
      (install b s).harness.stage = .run ∧ (install b s).pick.counter = s.pick.counter ∧
      (install b s).shaft.angle = s.shaft.angle ∧ (install b s).shaft.offset = s.shaft.offset := by
  have position : (weavingAtFirst b s).pick.position = some { bank := b, line := 0, step := 0, rep := 0 } := by simp
  obtain ⟨bank, committed, stage⟩ := startReform_fresh (weavingAtFirst b s) .reform position (by simp) (by simp)
  simp [install_eq, bank, committed, stage]

/-- Outside REFERENCED an install owes its re-form (R107, R152). -/
theorem install_of_not_referenced (b : BankId) (h : s.shaft.reference ≠ .referenced) :
    (install b s).frame.owed = some .reform ∧ (install b s).frame.latchedDesc = none ∧
      (install b s).frame.pickFeeder = .noFrame ∧ (install b s).frame.latched = Vector.replicate 8 none ∧
      (install b s).bank (otherBank b) = s.bank (otherBank b) := by
  rw [install_eq, startReform_of_not_referenced _ _ (by simpa using h)]
  have other : ({ weavingAtFirst b s with frame.owed := some .reform } : State).bank (otherBank b) =
      (weavingAtFirst b s).bank (otherBank b) := rfl
  rw [other]
  simp

/-- With the shaft REFERENCED and hooks to compute an install starts its re-form (R106, R152). -/
theorem install_of_referenced (b : BankId) (h : s.shaft.reference = .referenced) (hh : s.harness.live.hooks ≠ 0) :
    (install b s).frame.latchedDesc = none ∧ (install b s).frame.pickFeeder = .noFrame ∧
      (install b s).frame.latched = Vector.replicate 8 none ∧ (install b s).pick.reforming = true ∧
      (install b s).bank (otherBank b) = s.bank (otherBank b) ∧
      (install b s).Holds (.reform .reform) { bank := b, line := 0, step := 0, rep := 0 } := by
  have position : (weavingAtFirst b s).pick.position = some { bank := b, line := 0, step := 0, rep := 0 } := by simp
  have hooks : (weavingAtFirst b s).harness.live.hooks ≠ 0 := by simpa using hh
  obtain ⟨holds, reforming, latched⟩ := beginReform_holds (weavingAtFirst b s) .reform _ position hooks
  rw [install_eq, startReform_of_referenced _ _ (by simpa using h)]
  refine ⟨?_, ?_, by simpa using latched, reforming, ?_, holds⟩ <;>
    simp [beginReform_of_hooks _ _ _ position hooks]

/-- ARM of a bank that is not READY. -/
theorem armBank_bankState (h : (s.bank b).state ≠ .ready) : armBank b s = (s, .refused .bankState .none) := if_pos h

/-- ARM beside a WEAVING bank (R151). -/
theorem armBank_beside_weaving (h : (s.bank b).state = .ready) (hw : (s.bank (otherBank b)).state = .weaving) :
    armBank b s = (s.setBank b ((s.bank b).withState .armed), .done []) := by
  simp [armBank, h, hw, done]

/-- ARM of an article too wide for the harness, with no bank weaving (R152). -/
theorem armBank_width {x : Fin 16} (h : (s.bank b).state = .ready) (hw : (s.bank (otherBank b)).state ≠ .weaving)
    (wide : s.harness.live.tooWide (s.article b).width = some x) :
    armBank b s = (s, .refused .width (.number x.val)) := by
  simp [armBank, h, hw, State.widthFailure, wide]

/-- ARM of an article that fits the harness, with no bank weaving, installs it (R152). -/
theorem armBank_installs (h : (s.bank b).state = .ready) (hw : (s.bank (otherBank b)).state ≠ .weaving)
    (fits : s.fits b = true) : armBank b s = (install b s, .done []) := by
  have narrow : s.widthFailure b = none := Option.isNone_iff_eq_none.mp fits
  simp [armBank, h, hw, narrow, done]

/-- DISARM of a bank that is not ARMED. -/
theorem disarmBank_bankState (h : (s.bank b).state ≠ .armed) : disarmBank b s = (s, .refused .bankState .none) :=
  if_pos h

/-- DISARM while a frame that carries the swap mark is pending. -/
theorem disarmBank_tooLate (h : (s.bank b).state = .armed) (pending : s.swapPending = true) :
    disarmBank b s = (s, .refused .tooLate .none) := by
  simp [disarmBank, h, pending, refuse]

/-- DISARM of an ARMED bank with no swap-marked frame pending (R153). -/
theorem disarmBank_taken (h : (s.bank b).state = .armed) (free : s.swapPending = false) :
    disarmBank b s = (s.setBank b ((s.bank b).withState .ready), .done []) := by
  simp [disarmBank, h, free, done]

end Arming

/-- Settles O48: ARM by the state of the two banks, with the install as a re-form of the first pick; then DISARM. -/
theorem armAndDisarm : Obligations.ArmAndDisarm := by
  intro b s hs
  dsimp only
  rw [exec_arm b hs, exec_disarm b hs]
  refine ⟨fun notReady => ?_, fun ready weaving => ?_, fun ready noneWeaves => ⟨fun x wide => ?_, fun fits => ?_⟩,
    fun notArmed => ?_, fun armed pending => ?_, fun armed free => ?_⟩
  · rw [armBank_bankState notReady]
  · rw [armBank_beside_weaving ready weaving, Bank.withState]
  · rw [armBank_width ready noneWeaves wide]
  · rw [armBank_installs ready noneWeaves fits]
    obtain ⟨position, engine, weaving, record, alternation, committed, stage, counter, angle, offset⟩ :=
      install_fields b s
    exact ⟨_, rfl, position, engine, weaving, record, alternation, committed, stage, counter, angle, offset,
      install_of_not_referenced b, install_of_referenced b⟩
  · rw [disarmBank_bankState notArmed]
  · rw [disarmBank_tooLate armed pending]
  · rw [disarmBank_taken armed free, Bank.withState]

end Sys2Proof.Proofs
end

section
/-! PROOF. The close of an article (spec/08): CLOSE ARTICLE (R149) and the four tests of the close validation (R150). -/

namespace Sys2Proof.Proofs

open Sys2Proof.Machine

section Lowest

variable {n : Nat} {p : Fin n → Bool}

/-! ## The lowest index that passes a test -/

/-- A search upward finds the lowest index that passes. -/
theorem find?_finRange_eq_some_iff {i : Fin n} :
    (List.finRange n).find? p = some i ↔ p i = true ∧ ∀ j < i, p j = false := by
  rw [← Fin.find?_eq_find?_finRange, Fin.find?_eq_some_iff]

end Lowest

section Validation

variable (a : Article)

/-! ## What each test of the close validation finds (R150) -/

/-- A weft system is used by a step of a scheme that the line table holds (R150). -/
theorem usesSystem_iff (ws : Fin 8) :
    a.usesSystem ws = true ↔ ∃ n steps, some n ∈ a.lines ∧ a.schemes[n] = some steps ∧ ∃ x ∈ steps, x.system = ws := by
  have used (scheme : Option (List SchemeStep)) :
      (scheme.getD []).any (fun x => x.system == ws) = true ↔
        ∃ steps, scheme = some steps ∧ ∃ x ∈ steps, x.system = ws := by
    cases scheme <;> simp
  simp only [Article.usesSystem, Article.namesScheme, List.any_eq_true, List.mem_finRange, true_and, Bool.and_eq_true,
    List.contains_iff_mem, used]
  grind

/-- Inside the line table the scheme number of a line is its entry (R146). -/
theorem schemeNumber_eq_getElem {l : Nat} (h : l < a.lines.length) : a.schemeNumber l = a.lines[l] :=
  List.getD_eq_getElem _ _ h

/-- The first test finds the lowest line not written. -/
theorem missingLine_eq_some_iff (l : Nat) :
    a.missingLine = some l ↔
      l < a.lines.length ∧ a.schemeNumber l = none ∧ ∀ m, m < l → (a.schemeNumber m).isSome = true := by
  rw [Article.missingLine, List.findIdx?_eq_some_iff_getElem]
  refine Iff.trans (exists_congr fun inside => ?_) exists_prop
  rw [schemeNumber_eq_getElem a inside]
  refine and_congr Option.isNone_iff_eq_none (forall₂_congr fun m lower => ?_)
  rw [schemeNumber_eq_getElem a (lower.trans inside)]
  simp [Option.isSome_iff_ne_none]

/-- The first test passes when every line is written. -/
theorem missingLine_eq_none_iff :
    a.missingLine = none ↔ ∀ m, m < a.lines.length → (a.schemeNumber m).isSome = true := by
  rw [Article.missingLine, List.findIdx?_eq_none_iff, List.forall_mem_iff_forall_getElem]
  refine forall₂_congr fun m inside => ?_
  rw [schemeNumber_eq_getElem a inside]
  simp

/-- The second test finds the lowest undefined scheme that the line table holds. -/
theorem undefinedScheme_eq_some_iff (n : Fin 8) :
    a.undefinedScheme = some n ↔
      some n ∈ a.lines ∧ a.schemes[n] = none ∧ ∀ m, m < n → some m ∈ a.lines → a.schemes[m] ≠ none := by
  simp [Article.undefinedScheme, find?_finRange_eq_some_iff, Article.namesScheme, and_assoc, Option.isSome_iff_ne_none]

/-- The second test passes when every scheme that the line table holds is defined. -/
theorem undefinedScheme_eq_none_iff :
    a.undefinedScheme = none ↔ ∀ n, some n ∈ a.lines → a.schemes[n] ≠ none := by
  simp [Article.undefinedScheme, Article.namesScheme]

/-- The lowest undefined weave of a weft system. -/
theorem undefinedEffect_eq_some_iff (ws : Fin 8) (e : Fin 4) :
    a.undefinedEffect ws = some e ↔
      (a.weaves[ws])[e] = none ∧ ∀ e' : Fin 4, e' < e → (a.weaves[ws])[e'] ≠ none := by
  simp [Article.undefinedEffect, find?_finRange_eq_some_iff, Option.isSome_iff_ne_none]

/-- A weft system with every weave defined. -/
theorem undefinedEffect_eq_none_iff (ws : Fin 8) :
    a.undefinedEffect ws = none ↔ ∀ e : Fin 4, (a.weaves[ws])[e] ≠ none := by
  simp [Article.undefinedEffect]

/-- What the third test finds at a system. -/
def weaveFailure (a : Article) (ws : Fin 8) : Option (Fin 8 × Fin 4) :=
  if a.usesSystem ws then (a.undefinedEffect ws).map (fun e => (ws, e)) else none

/-- The third test takes the systems in order. -/
theorem undefinedWeave_eq : a.undefinedWeave = Fin.findSome? (weaveFailure a) :=
  (Fin.findSome?_eq_findSome?_finRange _).symm

/-- A system fails the third test when it is used and has an undefined weave, the lowest one being named. -/
theorem weaveFailure_eq_some_iff (i ws : Fin 8) (e : Fin 4) :
    weaveFailure a i = some (ws, e) ↔ i = ws ∧ a.usesSystem ws = true ∧ a.undefinedEffect ws = some e := by
  by_cases used : a.usesSystem i = true
  · simp only [weaveFailure, used, if_true, Option.map_eq_some_iff, Prod.mk.injEq]
    constructor
    · rintro ⟨_, found, rfl, rfl⟩
      exact ⟨rfl, used, found⟩
    · rintro ⟨rfl, -, found⟩
      exact ⟨e, found, rfl, rfl⟩
  · simp only [weaveFailure, used, Bool.false_eq_true, if_false, reduceCtorEq, false_iff]
    rintro ⟨rfl, used', -⟩
    exact used used'

/-- A system passes the third test unless it is used and has an undefined weave. -/
theorem weaveFailure_eq_none_iff (ws : Fin 8) :
    weaveFailure a ws = none ↔ (a.usesSystem ws = true → ∀ e : Fin 4, (a.weaves[ws])[e] ≠ none) := by
  by_cases used : a.usesSystem ws = true
  · simp [weaveFailure, used, undefinedEffect_eq_none_iff]
  · simp [weaveFailure, used]

/-- The third test finds the lowest used system with an undefined weave, and that weave. -/
theorem undefinedWeave_eq_some_iff (ws : Fin 8) (e : Fin 4) :
    a.undefinedWeave = some (ws, e) ↔
      a.usesSystem ws = true ∧ (a.weaves[ws])[e] = none ∧
        (∀ e' : Fin 4, e' < e → (a.weaves[ws])[e'] ≠ none) ∧
        ∀ (ws' : Fin 8) (e' : Fin 4), ws' < ws → a.usesSystem ws' = true → (a.weaves[ws'])[e'] ≠ none := by
  rw [undefinedWeave_eq, Fin.findSome?_eq_some_iff]
  simp only [weaveFailure_eq_some_iff, weaveFailure_eq_none_iff, undefinedEffect_eq_some_iff]
  grind

/-- The third test passes when every used system has its four weaves. -/
theorem undefinedWeave_eq_none_iff :
    a.undefinedWeave = none ↔
      ∀ (ws : Fin 8) (e : Fin 4), a.usesSystem ws = true → (a.weaves[ws])[e] ≠ none := by
  rw [undefinedWeave_eq, Fin.findSome?_eq_none_iff]
  simp only [weaveFailure_eq_none_iff]
  grind

/-- The fourth test finds the lowest used system without a feeder entry. -/
theorem undefinedFeeder_eq_some_iff (ws : Fin 8) :
    a.undefinedFeeder = some ws ↔
      a.usesSystem ws = true ∧ a.feeders[ws] = none ∧
        ∀ ws' : Fin 8, ws' < ws → a.usesSystem ws' = true → a.feeders[ws'] ≠ none := by
  simp [Article.undefinedFeeder, find?_finRange_eq_some_iff, and_assoc, Option.isSome_iff_ne_none]

/-- The fourth test passes when every used system has a feeder entry. -/
theorem undefinedFeeder_eq_none_iff :
    a.undefinedFeeder = none ↔ ∀ ws, a.usesSystem ws = true → a.feeders[ws] ≠ none := by
  simp [Article.undefinedFeeder]

/-! ## The result is that of the first test that fails (R150) -/

/-- What the four tests have found when the close validation gives a result: the tests before passed, and the one that
the result names failed with its detail (R150). -/
def Finds (a : Article) : CloseResult → Prop
  | .none => False
  | .linesMissing l => a.missingLine = some l
  | .schemeUndefined n => a.missingLine = none ∧ a.undefinedScheme = some n
  | .weaveUndefined ws e =>
    a.missingLine = none ∧ a.undefinedScheme = none ∧ a.undefinedWeave = some (ws, e)
  | .feederUndefined ws =>
    a.missingLine = none ∧ a.undefinedScheme = none ∧ a.undefinedWeave = none ∧ a.undefinedFeeder = some ws
  | .ok => a.missingLine = none ∧ a.undefinedScheme = none ∧ a.undefinedWeave = none ∧ a.undefinedFeeder = none

/-- The close validation gives a result that its tests have found. -/
theorem finds_validate : Finds a a.validate := by
  cases hl : a.missingLine with
  | some l => simp [Article.validate, Finds, hl]
  | none =>
    cases hn : a.undefinedScheme with
    | some n => simp [Article.validate, Finds, hl, hn]
    | none =>
      cases hw : a.undefinedWeave with
      | some x => simp [Article.validate, Finds, hl, hn, hw]
      | none => cases hf : a.undefinedFeeder <;> simp [Article.validate, Finds, hl, hn, hw, hf]

/-- A result that the tests have found is the one the close validation gives. -/
theorem validate_of_finds {r : CloseResult} (h : Finds a r) : a.validate = r := by
  cases r with
  | none => exact h.elim
  | linesMissing l =>
    have hl : a.missingLine = some l := h
    simp [Article.validate, hl]
  | schemeUndefined n =>
    obtain ⟨hl, hn⟩ := h
    simp [Article.validate, hl, hn]
  | weaveUndefined ws e =>
    obtain ⟨hl, hn, hw⟩ := h
    simp [Article.validate, hl, hn, hw]
  | feederUndefined ws =>
    obtain ⟨hl, hn, hw, hf⟩ := h
    simp [Article.validate, hl, hn, hw, hf]
  | ok =>
    obtain ⟨hl, hn, hw, hf⟩ := h
    simp [Article.validate, hl, hn, hw, hf]

/-- The close validation gives exactly the result that its tests find (R150). -/
theorem validate_eq_iff (r : CloseResult) : a.validate = r ↔ Finds a r :=
  ⟨fun h => h ▸ finds_validate a, validate_of_finds a⟩

end Validation

section Closing

variable {b : BankId} {s : State}

/-! ## CLOSE ARTICLE (R149) -/

/-- CLOSE ARTICLE on a design link that listens (R149). -/
theorem exec_closeArticle (h : s.listens .design = true) :
    exec (.closeArticle .design [BitVec.ofNat 8 (bankCode b)]) s =
      .next (answer .design 0x46 (closeArticle b s).2 (closeArticle b s).1) :=
  congrArg Host.Outcome.next (transact_bank_only b 0x46 closeArticle h)

/-- CLOSE ARTICLE of a bank that is not OPEN. -/
theorem closeArticle_bankState (h : (s.bank b).state ≠ .opened) : closeArticle b s = (s, .refused .bankState .none) :=
  if_pos h

/-- CLOSE ARTICLE with entries in the load queue leaves the validation to the last of them (R149). -/
theorem closeArticle_waits (h : (s.bank b).state = .opened) (hq : s.store.queue ≠ []) :
    closeArticle b s = (s.setBank b { s.bank b with state := .closing }, .started) := by
  simp [closeArticle, h, hq, Bank.withState]

/-- A bank written twice is as after the second write. -/
theorem setBank_setBank (x y : Bank) : (s.setBank b x).setBank b y = s.setBank b y := by cases b <;> rfl

/-- The close validation of a bank reads its record, whatever the bank's state (R150). -/
theorem finishClose_setBank (x : BankState) :
    finishClose b (s.setBank b ((s.bank b).withState x)) =
      raise .design .closeDone (s.setBank b { s.bank b with
        state := if (s.article b).validate = .ok then .ready else .opened
        closeResult := (s.article b).validate }) := by
  rw [finishClose, bank_setBank, setBank_setBank]
  rfl

/-- CLOSE ARTICLE with the load queue empty runs the validation at once (R149, R150). -/
theorem closeArticle_validates (h : (s.bank b).state = .opened) (hq : s.store.queue = []) :
    closeArticle b s =
      (raise .design .closeDone (s.setBank b { s.bank b with
        state := if (s.article b).validate = .ok then .ready else .opened
        closeResult := (s.article b).validate }),
        .started) := by
  simp only [closeArticle, h, setBank_keeps, hq, finishClose_setBank, ne_eq, not_true_eq_false, if_false, if_true]

end Closing

/-- Settles O47: CLOSE ARTICLE by the load queue; each result of the validation is what its tests find. -/
theorem closeArticleValidates : Obligations.CloseArticleValidates := by
  refine ⟨fun b s hs => ?_, fun a => ⟨fun l => ?_, fun n => ?_, ?_, fun ws e => ?_, fun ws => ?_, ?_,
    usesSystem_iff a⟩⟩
  · dsimp only
    rw [exec_closeArticle hs]
    refine ⟨fun closed => ?_, fun opened waiting => ?_, fun opened drained => ?_⟩
    · rw [closeArticle_bankState closed]
    · rw [closeArticle_waits opened waiting]
    · rw [closeArticle_validates opened drained]
  · rw [validate_eq_iff, Finds, missingLine_eq_some_iff]
  · rw [validate_eq_iff, Finds, missingLine_eq_none_iff, undefinedScheme_eq_some_iff]
  · rw [Ne, validate_eq_iff]
    exact id
  · rw [validate_eq_iff, Finds, missingLine_eq_none_iff, undefinedScheme_eq_none_iff, undefinedWeave_eq_some_iff]
  · rw [validate_eq_iff, Finds, missingLine_eq_none_iff, undefinedScheme_eq_none_iff, undefinedWeave_eq_none_iff,
      undefinedFeeder_eq_some_iff]
  · rw [validate_eq_iff, Finds, missingLine_eq_none_iff, undefinedScheme_eq_none_iff, undefinedWeave_eq_none_iff,
      undefinedFeeder_eq_none_iff]
    grind

end Sys2Proof.Proofs
end

section
/-! PROOF. WRITE LINE (R155, R159): the cells an entry of the load queue holds, and the burst granted on a free port
(R163). -/

namespace Sys2Proof.Proofs

open Sys2Proof.Machine

section Cells

variable {w : Nat} {cells : List Byte}

/-! ## The cells of an entry (R159) -/

/-- Masking keeps the number of cell bytes. -/
theorem maskCells_length : (maskCells w cells).length = cells.length := by
  unfold maskCells
  split <;> simp

/-- With a width that fills its last byte there is nothing to mask. -/
theorem maskCells_of_full (h : w % 4 = 0) : maskCells w cells = cells := if_pos h

/-- Masking leaves every byte before the one that holds column w. -/
theorem maskCells_getD_of_lt {i : Nat} (hi : i < w / 4) : (maskCells w cells).getD i 0#8 = cells.getD i 0#8 := by
  unfold maskCells
  split
  · rfl
  · rw [List.getD_eq_getElem?_getD, List.getElem?_set_ne (by omega), List.getD_eq_getElem?_getD]

/-- Masking cuts the last byte down to its w mod 4 cells. -/
theorem maskCells_getD_last (hw : w % 4 ≠ 0) (h : cells.length = (w + 3) / 4) :
    ((maskCells w cells).getD (w / 4) 0#8).toNat = (cells.getD (w / 4) 0#8).toNat % 4 ^ (w % 4) := by
  have inside : w / 4 < cells.length := by omega
  have byte : (cells.getD (w / 4) 0#8).toNat % 4 ^ (w % 4) < 2 ^ 8 :=
    (Nat.mod_le _ _).trans_lt (cells.getD (w / 4) 0#8).isLt
  rw [maskCells, if_neg hw, List.getD_eq_getElem _ _ (by simpa using inside), List.getElem_set_self,
    BitVec.toNat_ofNat, Nat.mod_eq_of_lt byte]

/-- A base-4 digit below place n survives the remainder by 4 to the n. -/
theorem digit_mod_of_lt {n i : Nat} (x : Nat) (h : i < n) : x % 4 ^ n / 4 ^ i % 4 = x / 4 ^ i % 4 := by
  obtain ⟨k, rfl⟩ := Nat.exists_eq_add_of_lt h
  rw [show i + k + 1 = i + (k + 1) from rfl, pow_add, Nat.mod_mul_right_div_self, pow_succ,
    Nat.mod_mul_left_mod]

/-- A base-4 digit from place n on is 0 after the remainder by 4 to the n. -/
theorem digit_mod_of_le {n i : Nat} (x : Nat) (h : n ≤ i) : x % 4 ^ n / 4 ^ i % 4 = 0 := by
  have small : x % 4 ^ n < 4 ^ i := (Nat.mod_lt _ (by positivity)).trans_le (Nat.pow_le_pow_right (by omega) h)
  rw [Nat.div_eq_of_lt small]

/-- Masking leaves the cells of the design's columns. -/
theorem effectCode_maskCells_of_lt {col : Nat} (h : cells.length = (w + 3) / 4) (hc : col < w) :
    effectCode (maskCells w cells) col = effectCode cells col := by
  unfold effectCode
  by_cases last : col / 4 < w / 4
  · rw [maskCells_getD_of_lt last]
  · have byte : col / 4 = w / 4 := by omega
    rw [byte, maskCells_getD_last (by omega) h, digit_mod_of_lt _ (by omega)]

/-- Masking leaves no cell beyond the design's columns. -/
theorem effectCode_maskCells_of_le {col : Nat} (h : cells.length = (w + 3) / 4) (hc : w ≤ col) :
    effectCode (maskCells w cells) col = 0 := by
  unfold effectCode
  by_cases beyond : cells.length ≤ col / 4
  · rw [List.getD_eq_default _ _ (by rwa [maskCells_length])]
    simp
  · have byte : col / 4 = w / 4 := by omega
    rw [byte, maskCells_getD_last (by omega) h, digit_mod_of_le _ (by omega)]

end Cells

section Arbiter

variable (s : State)

/-! ## The arbiter grants the burst that R163 names -/

/-- The model's place of a burst is that of R145. -/
theorem burstAddress_eq (b : BankId) (line n : Nat) : burstAddress b line n = burstPlace b line n := by
  cases b <;> rfl

/-- The data of a burst of the load queue, byte by byte (R161). -/
theorem burstData_eq (cells : List Byte) (n : Nat) :
    burstData cells n = (List.range 64).map fun i => cells.getD (n * 64 + i) 0#8 := by
  refine List.ext_getElem (by simp [burstData_length]) fun i hi _ => ?_
  have place : i < 64 := by rwa [burstData_length] at hi
  simp only [burstData, burstBytes, List.getElem_append, List.getElem_replicate, List.getElem_take, List.getElem_drop,
    List.getElem_map, List.getElem_range, List.length_take, List.length_drop]
  split
  · rw [List.getD_eq_getElem]
  · rw [List.getD_eq_default]
    omega

/-- The frame builder waits for the burst of R110. -/
theorem wantsBurst_eq : s.frame.wantsBurst = s.waiting .frame := by
  unfold FrameBuilder.wantsBurst State.waiting
  cases s.frame.slot with
  | empty => rfl
  | assembling d v stage => cases stage <;> simp [burstAddress_eq, burstBytes]
  | ready d => rfl

/-- The load queue waits for the burst of R161. -/
theorem queueBurst_eq : s.store.queueBurst = s.waiting .queue := by
  unfold PatternStore.queueBurst State.waiting
  cases s.store.queue <;> simp [burstAddress_eq, burstData_eq]

/-- Readback waits for the burst of R164. -/
theorem readbackBurst_eq : s.store.readbackBurst = s.waiting .readback := by
  unfold PatternStore.readbackBurst State.waiting
  cases s.store.readback <;> simp [burstAddress_eq, burstBytes]

/-- The arbiter's next burst is the one that is due (R163). -/
theorem nextBurst_eq_due : s.nextBurst = s.due := by
  unfold State.nextBurst State.due
  rw [wantsBurst_eq, queueBurst_eq, readbackBurst_eq]
  cases s.waiting .frame <;> cases s.waiting .queue <;> rfl

/-- What is due rests on the slot, the load queue and the readback buffer, and not on the port (R163). -/
theorem due_congr {s t : State} (slot : t.frame.slot = s.frame.slot) (queue : t.store.queue = s.store.queue)
    (readback : t.store.readback = s.store.readback) : t.due = s.due := by
  have waiting (r : Requester) : t.waiting r = s.waiting r := by
    cases r <;> simp only [State.waiting, slot, queue, readback]
  simp only [State.due, waiting]

/-- A free port is granted the burst that is due (R163). -/
theorem grant_of_free (h : s.store.port = none) : (grant s).store.port = (grant s).due := by
  have due : (grant s).due = s.due := due_congr (by simp) (by simp) (by simp)
  rw [due, ← nextBurst_eq_due]
  simp [grant, h]

/-- A port in use stays so (R163). -/
theorem grant_of_used {x : Burst} (h : s.store.port = some x) : (grant s).store.port = some x := by
  simp [grant, h]

end Arbiter

section Writing

variable {p : List Byte} {b : BankId} {s : State}

/-! ## WRITE LINE (R155, R159) -/

/-- WRITE LINE on a design link that listens, with 2 to 2,048 cell bytes (R159). -/
theorem exec_writeLine (l1 l0 n : Byte) (cells : List Byte) (h : s.listens .design = true) (hlo : 2 ≤ cells.length)
    (hhi : cells.length ≤ 2048) :
    let p := BitVec.ofNat 8 (bankCode b) :: l1 :: l0 :: n :: cells
    exec (.writeLine .design p) s = .next (answer .design 0x45 (writeLine p b s).2 (writeLine p b s).1) :=
  congrArg Host.Outcome.next
    (transact_bank b 0x45 6 2052 (l1 :: l0 :: n :: cells) (writeLine _) h
      (by simp only [List.length_cons]; omega) (by simp only [List.length_cons]; omega) (by decide))

/-- A number out of range is no index. -/
theorem indexOf_eq_none {m n : Nat} (h : m ≤ n) : indexOf m n = none := dif_neg (Nat.not_lt.mpr h)

/-- A number in range is its index. -/
theorem indexOf_eq_some {m n : Nat} (h : n < m) : indexOf m n = some ⟨n, h⟩ := dif_pos h

/-- WRITE LINE into a bank that is not OPEN. -/
theorem writeLine_bankState (h : (s.bank b).state ≠ .opened) : writeLine p b s = (s, .refused .bankState .none) :=
  if_pos h

/-- WRITE LINE of a line beyond the height. -/
theorem writeLine_line (opened : (s.bank b).state = .opened) (hl : (s.article b).height ≤ wordAt p 1) :
    writeLine p b s = (s, .refused .range (.number 1)) := by
  simp [writeLine, opened, hl, rangeAt]

/-- WRITE LINE with a number that names no scheme. -/
theorem writeLine_scheme (opened : (s.bank b).state = .opened) (hl : wordAt p 1 < (s.article b).height)
    (hn : 7 < byteAt p 3) : writeLine p b s = (s, .refused .range (.number 2)) := by
  simp [writeLine, opened, Nat.not_le.mpr hl, indexOf_eq_none hn, rangeAt]

/-- WRITE LINE with cell bytes that do not make up the width. -/
theorem writeLine_cells (opened : (s.bank b).state = .opened) (hl : wordAt p 1 < (s.article b).height)
    (hn : byteAt p 3 ≤ 7) (hc : (p.drop 4).length ≠ lineBytes (s.article b).width) :
    writeLine p b s = (s, .refused .length (.number 3)) := by
  simp only [writeLine, opened, Nat.not_le.mpr hl, indexOf_eq_some (Nat.lt_succ_of_le hn), hc, lengthAt, ne_eq,
    not_true_eq_false, not_false_eq_true, if_false, if_true]

/-- The parameters of WRITE LINE are those of a line of an OPEN bank's article: the line and the scheme in their ranges,
the cells of its width (R159). -/
structure LineFits (p : List Byte) (b : BankId) (s : State) : Prop where
  opened : (s.bank b).state = .opened
  line : wordAt p 1 < (s.article b).height
  scheme : byteAt p 3 < 8
  cells : (p.drop 4).length = lineBytes (s.article b).width

/-- The entry that WRITE LINE adds (R159). -/
def lineEntry (p : List Byte) (b : BankId) (s : State) (scheme : Fin 8) : QueueEntry :=
  { bank := b, line := wordAt p 1, scheme := scheme, cells := maskCells (s.article b).width (p.drop 4), written := 0 }

/-- A line that fits waits only for the load queue and for its own readback (R159). -/
theorem writeLine_of_fits (h : LineFits p b s) :
    writeLine p b s =
      if s.store.queue.length = 4 then busy s
      else if s.store.readback.fills b (wordAt p 1) then busy s
      else done (grant { s with store.queue := s.store.queue ++ [lineEntry p b s ⟨byteAt p 3, h.scheme⟩] }) := by
  simp only [writeLine, h.opened, Nat.not_le.mpr h.line, indexOf_eq_some h.scheme, h.cells, lineEntry, ne_eq,
    not_true_eq_false, if_false]

/-- WRITE LINE with the load queue full. -/
theorem writeLine_queueFull (h : LineFits p b s) (full : s.store.queue.length = 4) : writeLine p b s = (s, .busy) := by
  rw [writeLine_of_fits h, if_pos full, busy]

/-- The readback buffer fills with a line exactly while it is FILLING with a job of that bank and that line (R164). -/
theorem fills_iff (r : Readback) (line : Nat) :
    r.fills b line = true ↔ ∃ job data, r = .filling job data ∧ job.bank = b ∧ job.line = line := by
  cases r <;> simp [Readback.fills]

/-- WRITE LINE of the line in readback. -/
theorem writeLine_inReadback (h : LineFits p b s) (filling : s.store.readback.fills b (wordAt p 1) = true) :
    writeLine p b s = (s, .busy) := by
  rw [writeLine_of_fits h, if_pos filling, busy, ite_self]

/-- WRITE LINE that is taken (R159). -/
theorem writeLine_taken (h : LineFits p b s) (room : s.store.queue.length ≠ 4)
    (free : s.store.readback.fills b (wordAt p 1) = false) :
    writeLine p b s =
      (grant { s with store.queue := s.store.queue ++ [lineEntry p b s ⟨byteAt p 3, h.scheme⟩] }, .done []) := by
  rw [writeLine_of_fits h, if_neg room, if_neg (Bool.eq_false_iff.mp free), done]

end Writing

/-- Settles O46: the own rule check by check; the entry by the masked cells, the port by the arbiter. -/
theorem writeLineChecksAndQueues : Obligations.WriteLineChecksAndQueues := by
  intro b l1 l0 n line cells s hs hline hlo hhi
  obtain rfl : line = wordAt (BitVec.ofNat 8 (bankCode b) :: l1 :: l0 :: n :: cells) 1 := hline
  dsimp only
  rw [exec_writeLine l1 l0 n cells hs hlo hhi]
  refine ⟨fun closed => ?_, fun opened => ⟨fun high => ?_, fun low unnamed => ?_, fun low named short => ?_,
    fun low named whole => ?_⟩⟩
  · rw [writeLine_bankState closed]
  · rw [writeLine_line opened high]
  · rw [writeLine_scheme opened low unnamed]
  · rw [writeLine_cells opened low named short]
  · have fits : LineFits (BitVec.ofNat 8 (bankCode b) :: l1 :: l0 :: n :: cells) b s :=
      ⟨opened, low, Nat.lt_succ_of_le named, whole⟩
    refine ⟨fun full => ?_, fun job data filling bank line => ?_, fun room free => ?_⟩
    · rw [writeLine_queueFull fits full]
    · rw [writeLine_inReadback fits ((fills_iff _ _).mpr ⟨job, data, filling, bank, line⟩)]
    · have notFilling : s.store.readback.fills b (wordAt (BitVec.ofNat 8 (bankCode b) :: l1 :: l0 :: n :: cells) 1) =
          false := by
        rw [Bool.eq_false_iff, Ne, fills_iff]
        rintro ⟨job, data, filling, bank, line⟩
        exact free job data filling bank line
      rw [writeLine_taken fits room notFilling]
      refine ⟨_, lineEntry _ b s ⟨n.toNat, fits.scheme⟩, rfl, by simp [byteAt], rfl, rfl, rfl, rfl, maskCells_length,
        fun col => effectCode_maskCells_of_lt whole, fun col => effectCode_maskCells_of_le whole,
        fun idle => grant_of_free _ idle, fun x busy => grant_of_used _ busy, by simp⟩

end Sys2Proof.Proofs
end

section
/-! PROOF. The outputs at every step (spec/09): the stop request, the chain drivers and the feeder output follow each
operation of the model, and with them each row and each step (R94, R119, R121, R173). An operation either leaves all that
the outputs rest on, or ends with the outputs following. -/

namespace Sys2Proof.Proofs

open Sys2Proof.Machine

/-! ## The law of the outputs, and what it rests on -/

/-- The outputs follow the state (R94, R119, R121, R173), and while a reset is applied no article weaves (R180, R198). -/
structure OutputLaw (s : State) : Prop where
  quiet : s.inReset = true → s.pick.engine = .noArticle
  stop : s.StopFollows
  drivers : s.DriversFollow
  output : s.OutputAvailable

/-- What the drivers and the drive levels follow, and their pins (R119, R121). Of the reference state it is only whether
the shaft is LOST. -/
def driverView (s : State) :=
  (s.pick.engine, s.shaft.reference == .lost, s.harness.live, s.harness.ra, s.harness.rb, s.harness.drive,
    s.harness.stage, s.harness.driversOn, s.harness.levels)

/-- What the law reads of the state. -/
def outputView (s : State) :=
  (s.inReset, s.pick.engine, s.pick.fault, s.pick.stopRequest, s.frame.output, s.frame.available, driverView s)

section Parts

variable {s t : State}

/-- The stop request follows where its two conditions and the output itself are as they were (R173). -/
theorem stopFollows_congr (engine : t.pick.engine = s.pick.engine) (fault : t.pick.fault = s.pick.fault)
    (request : t.pick.stopRequest = s.pick.stopRequest) (h : s.StopFollows) : t.StopFollows := by
  rw [State.StopFollows, request, engine, fault]
  exact h

/-- The drivers follow where what they follow and their pins are as they were (R119, R121). -/
theorem driversFollow_congr (same : driverView t = driverView s) (h : s.DriversFollow) : t.DriversFollow := by
  simp only [driverView, Prod.mk.injEq] at same
  obtain ⟨engine, lost, live, ra, rb, drive, stage, on, levels⟩ := same
  have lostIff : t.shaft.reference = .lost ↔ s.shaft.reference = .lost := by
    rw [← beq_iff_eq, lost, beq_iff_eq]
  simpa only [State.DriversFollow, State.DriverConditions, engine, lostIff, live, ra, rb, drive, stage, on, levels]
    using h

/-- The feeder output is available where it and the availability are as they were (R94). -/
theorem outputAvailable_congr (output : t.frame.output = s.frame.output)
    (available : t.frame.available = s.frame.available) (h : s.OutputAvailable) : t.OutputAvailable := by
  simpa only [State.OutputAvailable, output, available] using h

/-- With the feeder output none there is nothing to be available (R94). -/
theorem outputAvailable_of_none (h : s.frame.output = none) : s.OutputAvailable := by
  simp [State.OutputAvailable, h]

/-- What leaves everything the law reads leaves the law. -/
theorem OutputLaw.of_view (h : OutputLaw s) (same : outputView t = outputView s) : OutputLaw t := by
  simp only [outputView, Prod.mk.injEq] at same
  obtain ⟨reset, engine, fault, request, output, available, drivers⟩ := same
  exact
    { quiet := by rw [reset, engine]; exact h.quiet
      stop := stopFollows_congr engine fault request h.stop
      drivers := driversFollow_congr drivers h.drivers
      output := outputAvailable_congr output available h.output }

/-- Once the drivers have followed, the law holds where its other parts do. -/
theorem outputLaw_followDrivers (quiet : s.inReset = true → s.pick.engine = .noArticle) (stop : s.StopFollows)
    (output : s.OutputAvailable) : OutputLaw (followDrivers s) :=
  ⟨quiet, stop, driversFollow_followDrivers s, output⟩

/-- Without an article no chain's drivers are to be ON (R119). -/
theorem not_driverConditions_of_noArticle (h : s.pick.engine = .noArticle) (c : Fin 8) : ¬ s.DriverConditions c := by
  simp [State.DriverConditions, h]

/-! ## The operations that follow -/

/-- A followed stop request follows (R173). -/
theorem stopFollows_followStop (s : State) : (followStop s).StopFollows := by simp [State.StopFollows]

/-- A fault report leaves the stop request following: the first fault asserts it, and a later one finds it asserted
(R171–R173). -/
theorem stopFollows_reportFault (kind : FaultKind) (cause : LossCause) (h : s.StopFollows) :
    (reportFault kind cause s).StopFollows := by
  cases held : s.pick.fault with
  | none => simp [reportFault_none, held, enterFirstFault, State.StopFollows]
  | some r =>
    have asserted : s.pick.stopRequest = true := by simpa [State.StopFollows, held] using h
    simp [reportFault_some, held, countLaterFault, State.StopFollows, asserted]

/-- A fault report keeps the law. -/
theorem outputLaw_reportFault (kind : FaultKind) (cause : LossCause) (h : OutputLaw s) :
    OutputLaw (reportFault kind cause s) where
  quiet := by simpa using h.quiet
  stop := stopFollows_reportFault kind cause h.stop
  drivers := driversFollow_congr (by simp [driverView]) h.drivers
  output := outputAvailable_congr (by simp) (by simp) h.output

/-- A restart of the standstill timer: the drivers follow the stage RUN (R122). -/
theorem outputLaw_restartStandstill (h : OutputLaw s) : OutputLaw (restartStandstill s) :=
  outputLaw_followDrivers h.quiet h.stop h.output

/-- An event raised reaches no output but attention. -/
theorem outputLaw_raise (k : Link) (e : Event) (h : OutputLaw s) : OutputLaw (raise k e s) :=
  h.of_view (by simp [outputView, driverView])

/-- An event raised on a condition reaches no output but attention. -/
theorem outputLaw_raiseIf (c : Bool) (k : Link) (e : Event) (h : OutputLaw s) : OutputLaw (raiseIf c k e s) :=
  h.of_view (by simp [outputView, driverView])

/-- A grant of the memory port reaches no output. -/
theorem outputLaw_grant (h : OutputLaw s) : OutputLaw (grant s) := h.of_view (by simp [outputView, driverView])

end Parts

/-! ## The feeder output (R86, R94–R97) -/

section Weft

variable {s : State}

/-- Setting the output to none or to an available feeder, whatever it named before (R94). -/
theorem outputLaw_setOutput {f : Option (Fin 8)} (r : Option OutputRecord)
    (available : ∀ x, f = some x → s.frame.available[x] = true)
    (quiet : s.inReset = true → s.pick.engine = .noArticle) (stop : s.StopFollows) (drivers : s.DriversFollow) :
    OutputLaw (setOutput f r s) :=
  ⟨quiet, stop, drivers, available⟩

/-- What a re-resolution finds is available (R97). -/
theorem available_of_reResolve {entry : Option FeederEntry} {available : Vector Bool 8} {f : Fin 8}
    (found : reResolve entry available = some f) : available[f] = true := by
  cases entry with
  | none => cases found
  | some e => exact available_of_tryFeeders found

/-- A re-resolution sets the output to a feeder that is available, or to none (R97). -/
theorem outputLaw_reResolveOutput (r : OutputRecord) (quiet : s.inReset = true → s.pick.engine = .noArticle)
    (stop : s.StopFollows) (drivers : s.DriversFollow) : OutputLaw (reResolveOutput r s) := by
  have output : OutputLaw (setOutput (reResolve r.entry s.frame.available) (some r) s) :=
    outputLaw_setOutput _ (fun _ => available_of_reResolve) quiet stop drivers
  unfold reResolveOutput
  dsimp only
  split
  · exact outputLaw_reportFault _ _ output
  · exact outputLaw_raiseIf _ _ _ output

/-- A latched frame's feeder is presented only while it is available (R95, R96). -/
theorem outputLaw_presentFeeder (f : Option (Fin 8)) (d : Descriptor) (h : OutputLaw s) :
    OutputLaw (presentFeeder f d s) := by
  unfold presentFeeder
  dsimp only
  split
  case isTrue available =>
    refine outputLaw_setOutput _ ?_ h.quiet h.stop h.drivers
    rintro x rfl
    exact available
  case isFalse => exact outputLaw_reResolveOutput _ h.quiet h.stop h.drivers

/-- A crossing of S (R95). -/
theorem outputLaw_weftSelect (h : OutputLaw s) : OutputLaw (weftSelect s) := by
  have cleared : OutputLaw (setOutput none none s) := outputLaw_setOutput _ (by simp) h.quiet h.stop h.drivers
  unfold weftSelect
  split
  · exact cleared
  · split
    · exact h
    · split
      · exact outputLaw_presentFeeder _ _ h
      · exact cleared

/-- FEEDER OUT of the feeder at the output re-resolves it, and of another leaves the output available (R86, R97). -/
theorem outputLaw_takeFeederOut (f : Fin 8) (h : OutputLaw s) : OutputLaw (takeFeederOut f s) := by
  unfold takeFeederOut
  dsimp only
  split
  · split
    · exact outputLaw_reResolveOutput _ h.quiet h.stop h.drivers
    · exact outputLaw_setOutput _ (by simp) h.quiet h.stop h.drivers
  case isFalse other =>
    refine ⟨h.quiet, h.stop, h.drivers, fun x named => ?_⟩
    have ne : f ≠ x := fun e => other (e ▸ named)
    simpa [Vector.getElem_set, Fin.val_ne_of_ne ne] using h.output x named

/-- FEEDER IN takes no feeder away (R86). -/
theorem outputLaw_bringFeederIn (f : Fin 8) (h : OutputLaw s) : OutputLaw (bringFeederIn f s) := by
  refine ⟨h.quiet, h.stop, h.drivers, fun x named => ?_⟩
  have kept : s.frame.available[x.val] = true := h.output x named
  simp [bringFeederIn, Vector.getElem_set, kept]

/-- A report of a resolution raises at most a fault (R91). -/
theorem outputLaw_raiseResolution (r : Option (Fin 8) × Bool) (h : OutputLaw s) :
    OutputLaw (raiseResolution r s) := by
  unfold raiseResolution
  split
  · exact outputLaw_reportFault _ _ h
  · exact outputLaw_raiseIf _ _ _ h

end Weft

/-! ## Frames and re-forms (R104–R116) -/

section Frames

variable {s : State}

/-- The computation of the lifts reaches no output (R111). -/
theorem outputLaw_computeFrame (d : Descriptor) (v : GuardView) (cells : List Byte) (h : OutputLaw s) :
    OutputLaw (computeFrame d v cells s) := h.of_view (by simp [outputView, driverView])

/-- A completed forward frame reaches no output (R112). -/
theorem outputLaw_completeForward (h : OutputLaw s) : OutputLaw (completeForward s) :=
  h.of_view (by simp [outputView, driverView])

/-- A history record reaches no output (R47). -/
theorem outputLaw_addRecord (kind : RecordKind) (f : Option (Fin 8)) (sub : Bool) (n : Nat) (h : OutputLaw s) :
    OutputLaw (addRecord kind f sub n s) := h.of_view (by simp [outputView, driverView])

/-- An assembly start (R109). -/
theorem outputLaw_beginFrame (kind : FrameKind) (p : Position) (swap : Bool) (n : Nat) (h : OutputLaw s) :
    OutputLaw (beginFrame kind p swap n s) := by
  have resolved (r : Option (Fin 8) × Bool) (reforming : Bool) (slot : Slot) :
      OutputLaw (raiseResolution r { s with pick.reforming := reforming, frame.slot := slot }) :=
    outputLaw_raiseResolution r (h.of_view rfl)
  unfold beginFrame
  dsimp only
  split
  · exact outputLaw_computeFrame _ _ _ (resolved _ _ _)
  · exact outputLaw_grant (resolved _ _ _)

/-- The start of a forward frame for a pick (R104). -/
theorem outputLaw_beginForward (p : Position) (swap : Bool) (h : OutputLaw s) : OutputLaw (beginForward p swap s) := by
  have begun := outputLaw_beginFrame .forward p swap (min (s.pick.counter + 1) maxCount) h
  unfold beginForward
  dsimp only
  split
  · exact outputLaw_completeForward begun
  · exact begun

/-- The start of the next forward frame (R104, R105). -/
theorem outputLaw_startForward (h : OutputLaw s) : OutputLaw (startForward s) := by
  unfold startForward
  split
  · split
    · exact h
    · split
      · exact outputLaw_beginForward _ _ h
      · split
        · exact outputLaw_beginForward _ _ h
        · exact outputLaw_beginForward _ _ (h.of_view (by simp [outputView, driverView]))
        · exact outputLaw_beginForward _ _ h
  · exact h

/-- The latch of a re-form presents its feeder and restarts the standstill timer (R96, R115, R122). -/
theorem outputLaw_takeReform (d : Descriptor) (cause : Cause) (h : OutputLaw s) : OutputLaw (takeReform d cause s) := by
  unfold takeReform
  exact outputLaw_restartStandstill
    (outputLaw_raise _ _ (outputLaw_addRecord _ _ _ _ (outputLaw_presentFeeder d.resolved d (h.of_view rfl))))

/-- The completion of a re-form (R105, R115). -/
theorem outputLaw_completeReform (h : OutputLaw s) : OutputLaw (completeReform s) := by
  unfold completeReform
  split
  · split
    · exact outputLaw_startForward (outputLaw_takeReform _ _ h)
    · exact h
  · exact h

/-- A re-form that starts (R106). -/
theorem outputLaw_beginReform (cause : Cause) (h : OutputLaw s) : OutputLaw (beginReform cause s) := by
  unfold beginReform
  split
  · exact h
  · have begun (p : Position) (n : Nat) : OutputLaw (beginFrame (.reform cause) p false n (discard s)) :=
      outputLaw_beginFrame _ _ _ _ (h.of_view (by simp [outputView, driverView]))
    dsimp only
    split
    · exact outputLaw_completeReform (begun _ _)
    · exact begun _ _

/-- A re-form started or owed (R106, R107). -/
theorem outputLaw_startReform (cause : Cause) (h : OutputLaw s) : OutputLaw (startReform cause s) := by
  unfold startReform
  split
  · exact outputLaw_beginReform cause h
  · exact h.of_view rfl

/-- An owed re-form at a referencing (R107). -/
theorem outputLaw_startOwed (h : OutputLaw s) : OutputLaw (startOwed s) := by
  unfold startOwed
  split
  · exact h
  · exact outputLaw_startReform _ (h.of_view rfl)

/-- The data of a frame's burst (R110, R111). -/
theorem outputLaw_takeFrameData (data : List Byte) (h : OutputLaw s) : OutputLaw (takeFrameData data s) := by
  unfold takeFrameData
  split
  · dsimp only
    split
    · exact h.of_view rfl
    · split
      · exact outputLaw_completeReform (outputLaw_completeForward (outputLaw_computeFrame _ _ _ h))
      · exact outputLaw_computeFrame _ _ _ h
  · exact h

end Frames

/-! ## The shaft (R1–R12) -/

section Shaft

variable {s : State}

/-- The latch of a READY frame (R113). -/
theorem outputLaw_takeReady (d : Descriptor) (h : OutputLaw s) : OutputLaw (takeReady d s) := by
  unfold takeReady
  dsimp only
  split
  · exact outputLaw_reportFault _ _ (h.of_view (by simp [outputView, driverView]))
  · exact h.of_view (by simp [outputView, driverView])

/-- A LATE latch (R114). -/
theorem outputLaw_takeLate (h : OutputLaw s) : OutputLaw (takeLate s) :=
  outputLaw_reportFault _ _ (h.of_view (by simp [outputView, driverView]))

/-- The engine at a forward latch (R27). -/
theorem outputLaw_latchEngine (h : OutputLaw s) : OutputLaw (latchEngine s) := by
  unfold latchEngine
  split
  · split
    · exact outputLaw_takeReady _ h
    · exact outputLaw_takeLate h
  · exact h

/-- A forward latch (R9). -/
theorem outputLaw_forwardLatch (h : OutputLaw s) : OutputLaw (forwardLatch s) := by
  have tracked : OutputLaw (latchTracker s) := h.of_view (by simp [outputView, driverView])
  exact outputLaw_restartStandstill (outputLaw_latchEngine tracked)

/-- A reverse latch (R10, R29). -/
theorem outputLaw_reverseLatch (h : OutputLaw s) : OutputLaw (reverseLatch s) := by
  unfold reverseLatch
  dsimp only
  split
  · exact outputLaw_startReform _ (h.of_view (by simp [outputView, driverView, Shaft.cancel]))
  · exact h.of_view rfl

/-- The marks of a forward count (R11). -/
theorem outputLaw_crossMarks (h : OutputLaw s) : OutputLaw (crossMarks s) := by
  have gated (on off : Bool) {x : State} (hx : OutputLaw x) : OutputLaw (gateMarks on off x) :=
    hx.of_view (by simp [outputView, driverView])
  unfold crossMarks
  dsimp only
  refine gated _ _ ?_
  split <;> split
  · exact outputLaw_weftSelect (outputLaw_startForward h)
  · exact outputLaw_weftSelect h
  · exact outputLaw_startForward h
  · exact h

/-- What every count does (R1, R3, R122). -/
theorem outputLaw_countShaft (dir : Direction) (h : OutputLaw s) : OutputLaw (countShaft dir s) := by
  have counted (x : Shaft) (gate : Bool) (same : x.reference = s.shaft.reference) :
      OutputLaw { s with shaft := x, frame.gate := gate } := h.of_view (by simp [outputView, driverView, same])
  exact outputLaw_restartStandstill (counted _ _ rfl)

/-- A cycle offset reaches no output. -/
theorem outputLaw_offset (d : Int) (h : OutputLaw s) : OutputLaw { s with shaft.offset := d } := h.of_view rfl

/-- A forward count on the cycle offset (R8, R9, R11). -/
theorem outputLaw_countForward (h : OutputLaw s) : OutputLaw (countForward s) := by
  unfold countForward
  split
  · exact outputLaw_crossMarks (outputLaw_forwardLatch (outputLaw_offset _ h))
  · exact outputLaw_crossMarks (outputLaw_offset _ h)

/-- A backward count on the cycle offset (R8, R10). -/
theorem outputLaw_countBackward (h : OutputLaw s) : OutputLaw (countBackward s) := by
  unfold countBackward
  dsimp only
  split
  · exact outputLaw_reverseLatch (outputLaw_offset _ h)
  · exact outputLaw_offset _ h

/-- A count of the shaft (R1, R8). -/
theorem outputLaw_shaftCount (dir : Direction) (h : OutputLaw s) : OutputLaw (shaftCount dir s) := by
  have counted := outputLaw_countShaft dir h
  unfold shaftCount
  dsimp only
  split
  · split
    · exact outputLaw_countForward counted
    · exact outputLaw_countBackward counted
  · exact counted

/-- Entry to LOST: the output becomes none, the stop request and the drivers follow (R12, R98, R124, R177). -/
theorem outputLaw_loseShaft (cause : LossCause) (awake : s.inReset = false) (h : OutputLaw s) :
    OutputLaw (loseShaft cause s) := by
  have reported : (reportFault .shaftLost cause
      { s with shaft := { s.shaft.cancel with reference := .lost, cause := cause } }).StopFollows :=
    stopFollows_reportFault _ _ h.stop
  unfold loseShaft
  dsimp only
  split
  case isTrue noArticle => exact outputLaw_followDrivers (fun _ => noArticle) reported (outputAvailable_of_none rfl)
  case isFalse =>
    refine outputLaw_followDrivers ?_ (stopFollows_followStop _) (outputAvailable_of_none ?_) <;>
      simp [weftOff, awake]

/-- An illegal step (R2). -/
theorem outputLaw_illegalStep (awake : s.inReset = false) (h : OutputLaw s) : OutputLaw (illegalStep s) := by
  have stepped : OutputLaw { s with shaft.lines := { a := !s.shaft.lines.a, b := !s.shaft.lines.b } } := h.of_view rfl
  unfold illegalStep
  dsimp only
  split
  · exact outputLaw_loseShaft _ awake stepped
  · exact stepped

/-- The index: a referencing leaves the shaft not LOST, as it was, and an index far from 0 loses it (R4, R5). -/
theorem outputLaw_takeIndex (awake : s.inReset = false) (h : OutputLaw s) : OutputLaw (takeIndex s) := by
  unfold takeIndex
  split
  case h_1 unreferenced => exact outputLaw_startOwed (h.of_view (by simp [outputView, driverView, unreferenced]))
  · dsimp only
    split
    · exact h.of_view rfl
    · exact outputLaw_loseShaft _ awake h
  · exact h

end Shaft

/-! ## Time and the release inputs (R3, R120, R122) -/

section Time

variable {s : State}

/-- The first standstill expiry: the drivers follow the stage HOLD (R122). -/
theorem outputLaw_firstExpiry (h : OutputLaw s) : OutputLaw (firstExpiry s) :=
  outputLaw_raise _ _ (outputLaw_followDrivers h.quiet h.stop h.output)

/-- The second standstill expiry: the drivers follow the stage RELEASE (R122). -/
theorem outputLaw_secondExpiry (h : OutputLaw s) : OutputLaw (secondExpiry s) :=
  outputLaw_raise _ _ (outputLaw_followDrivers h.quiet h.stop h.output)

/-- The still timer's expiry (R3). -/
theorem outputLaw_stillExpiry (h : OutputLaw s) : OutputLaw (stillExpiry s) := h.of_view rfl

/-- The still timer counting a microsecond (R3). -/
theorem outputLaw_tickStill (h : OutputLaw s) : OutputLaw (tickStill s) := by
  unfold tickStill
  split
  · exact h
  · split
    · exact outputLaw_stillExpiry h
    · exact h.of_view rfl

/-- The standstill timer counting a microsecond (R122). -/
theorem outputLaw_tickStandstill (h : OutputLaw s) : OutputLaw (tickStandstill s) := by
  unfold tickStandstill
  split
  · exact h
  · exact h
  · split
    · exact outputLaw_firstExpiry h
    · exact h.of_view rfl
  · split
    · exact outputLaw_secondExpiry h
    · exact h.of_view rfl

/-- A microsecond of the time base. -/
theorem outputLaw_tick (h : OutputLaw s) : OutputLaw (tick s) := by
  unfold tick
  split
  · exact h
  · exact outputLaw_tickStandstill (outputLaw_tickStill (h.of_view rfl))

/-- A release input outside reset: the drivers follow its change (R120). -/
theorem outputLaw_setReleaseInput (i : ReleaseInput) (b : Bool) (h : OutputLaw s) :
    OutputLaw (setReleaseInput i b s) := by
  unfold setReleaseInput
  split <;> split
  · exact h
  · exact outputLaw_raise _ _ (outputLaw_followDrivers h.quiet h.stop h.output)
  · exact h
  · exact outputLaw_raise _ _ (outputLaw_followDrivers h.quiet h.stop h.output)

/-- A release input while a reset is applied: no article weaves, so its level enables no driver (R120, R198). -/
theorem outputLaw_trackReleaseInput (i : ReleaseInput) (b : Bool) (applied : s.inReset = true) (h : OutputLaw s) :
    OutputLaw (trackReleaseInput i b s) := by
  have off (c : Fin 8) : ¬ s.harness.driversOn[c] = true :=
    mt (h.drivers c).1.mp (not_driverConditions_of_noArticle (h.quiet applied) c)
  have noArticle : (trackReleaseInput i b s).pick.engine = .noArticle := by cases i <;> exact h.quiet applied
  cases i <;>
    exact
      { quiet := h.quiet
        stop := h.stop
        drivers := fun c => ⟨iff_of_false (off c) (not_driverConditions_of_noArticle noArticle c), (h.drivers c).2⟩
        output := h.output }

end Time

/-! ## Resets (R119, R121, R144, R198, R205) -/

section Resets

variable {s : State}

/-- The state after a reset, with any harness table: no article, no fault, every driver OFF and every level that of
slot 0. -/
theorem outputLaw_afterReset (ra rb : Bool) (live : HarnessTable) (fixed : Bool) :
    OutputLaw { afterReset ra rb s with
      harness := { (afterReset ra rb s).harness with fixed := fixed, live := live } } where
  quiet _ := rfl
  stop := rfl
  drivers c := by
    refine ⟨iff_of_false (by simp [afterReset, HarnessUnit.reset]) (not_driverConditions_of_noArticle rfl c), ?_⟩
    simp [afterReset, HarnessUnit.reset, DriveSettings.default]
  output := outputAvailable_of_none rfl

/-- The RESET pin (R144, R205). -/
theorem outputLaw_resetPin (ra rb : Bool) : OutputLaw (keepFixed s (afterReset ra rb s)) := by
  unfold keepFixed
  split
  · exact outputLaw_afterReset ra rb _ true
  · exact outputLaw_afterReset ra rb _ false

/-- The end of a reset (R21, R198). -/
theorem outputLaw_endReset (a b x y : Bool) (h : OutputLaw s) : OutputLaw (endReset a b x y s) :=
  ⟨nofun, h.stop, h.drivers, h.output⟩

end Resets

/-! ## Commands of both links -/

section BothLinks

variable {s : State}

/-- A link's interface reaches no output but attention. -/
theorem outputLaw_setLink (k : Link) (l : LinkState) (h : OutputLaw s) : OutputLaw (s.setLink k l) :=
  h.of_view (by simp [outputView, driverView])

/-- A command keeps the law where its own rule keeps it outside reset: a link takes none while one is applied (R198). -/
theorem outputLaw_transact {k : Link} {code : Byte} {o : Offer} {lo hi : Nat} {p : List Byte}
    {own : State → State × Reply} (rule : s.inReset = false → OutputLaw (own s).1) (h : OutputLaw s) :
    OutputLaw (transact k code o lo hi p own s) := by
  cases listens : s.listens k with
  | false => rwa [transact_deaf listens]
  | true =>
    have awake : s.inReset = false := by simpa using (Bool.and_eq_true_iff.mp listens).1
    exact transact_keeps (fun _ _ => outputLaw_setLink _ _) (fun _ _ => outputLaw_setLink _ _) (fun _ => rule awake) h

/-- The claim reaches no output (R130). -/
theorem outputLaw_claim (c : Option Claim) (h : OutputLaw s) : OutputLaw { s with harness.claim := c } := h.of_view rfl

/-- NOTE (R195). -/
theorem outputLaw_sendNote (k : Link) (v : Byte) (h : OutputLaw s) : OutputLaw (sendNote k v s).1 := by
  unfold sendNote
  split
  · exact h
  · exact outputLaw_raise _ _ (outputLaw_setLink _ _ h)

/-- READ NOTE (R196). -/
theorem outputLaw_readNote (k : Link) (h : OutputLaw s) : OutputLaw (readNote k s).1 := by
  unfold readNote
  split
  · exact h
  · exact outputLaw_setLink _ _ h

/-- CLAIM HARNESS (R130). -/
theorem outputLaw_claimHarness (k : Link) (h : OutputLaw s) : OutputLaw (claimHarness k s).1 := by
  unfold claimHarness
  split
  · exact h
  · split
    · exact h
    · split
      · exact h
      · exact outputLaw_claim _ h

/-- WRITE CHAIN, WRITE SECTION and WRITE SELVAGE edit the shadow alone (R131–R133). -/
theorem outputLaw_editShadow (k : Link) (edit : HarnessTable → Except FieldFailure HarnessTable) (h : OutputLaw s) :
    OutputLaw (editShadow k edit s).1 := by
  unfold editShadow
  split
  · exact h
  · split
    · exact h
    · exact outputLaw_claim _ h

/-- DISCARD HARNESS (R138). -/
theorem outputLaw_discardHarness (k : Link) (h : OutputLaw s) : OutputLaw (discardHarness k s).1 := by
  unfold discardHarness
  split
  · exact outputLaw_raise _ _ (outputLaw_claim _ h)
  · exact h

/-- BREAK CLAIM (R139). -/
theorem outputLaw_breakClaim (h : OutputLaw s) : OutputLaw (breakClaim s) := by
  unfold breakClaim
  split
  · exact outputLaw_raise _ _ (outputLaw_claim _ h)
  · exact h

/-- A re-form called for while an article weaves (R68, R136). -/
theorem outputLaw_reformWhileWeaving (h : OutputLaw s) :
    OutputLaw (if s.weaves then startReform .reform s else s) := by
  split
  · exact outputLaw_startReform _ h
  · exact h

/-- The effects of a commit: the drivers follow the new live table (R119, R136). -/
theorem outputLaw_commitTable (k : Link) (t : HarnessTable) (h : OutputLaw s) : OutputLaw (commitTable k t s) :=
  outputLaw_raise _ _ (outputLaw_reformWhileWeaving (outputLaw_followDrivers h.quiet h.stop h.output))

/-- COMMIT HARNESS (R134–R136). -/
theorem outputLaw_commitHarness (k : Link) (h : OutputLaw s) : OutputLaw (commitHarness k s).1 := by
  unfold commitHarness
  split
  · exact h
  · split
    · exact h
    · split
      · exact h
      · split
        · exact h
        · exact outputLaw_commitTable _ _ h

/-- READ HARNESS (R142). -/
theorem readHarness_state (k : Link) (choice : Nat) : (readHarness k choice s).1 = s := by
  unfold readHarness
  split
  · rfl
  · split
    · split <;> rfl
    · rfl

/-- READ ARTICLE (R167). -/
theorem readArticle_state (p : List Byte) : (readArticle p s).1 = s := by
  unfold readArticle
  split <;> rfl

end BothLinks

/-! ## Commands of the loom link -/

section LoomLink

variable {s : State}

/-- A command that moves the position is taken only after the checks of R42. -/
theorem outputLaw_whenMovable {own : State → State × Reply} (rule : OutputLaw (own s).1) (h : OutputLaw s) :
    OutputLaw (whenMovable own s).1 := by
  unfold whenMovable
  split
  · exact h
  · exact rule

/-- CLEAR FAULT: the stop request follows the empty record (R174). -/
theorem outputLaw_clearFault (h : OutputLaw s) : OutputLaw (clearFault s) :=
  ⟨h.quiet, stopFollows_followStop _, h.drivers, h.output⟩

/-- A position moved is re-formed (R17, R42). -/
theorem outputLaw_finishMove (cause : Cause) (h : OutputLaw s) : OutputLaw (finishMove cause s) :=
  outputLaw_startReform cause (h.of_view rfl)

/-- STEP BACK (R43). -/
theorem outputLaw_stepBack (n : Nat) (h : OutputLaw s) : OutputLaw (stepBack n s) :=
  outputLaw_finishMove _ (h.of_view (by simp [outputView, driverView]))

/-- STEP FORWARD (R43). -/
theorem outputLaw_stepForward (n : Nat) (h : OutputLaw s) : OutputLaw (stepForward n s) :=
  outputLaw_finishMove _ (h.of_view (by simp [outputView, driverView]))

/-- STEP BACK and STEP FORWARD wait for a re-form (R43). -/
theorem outputLaw_unlessReforming {own : State → State} (rule : OutputLaw (own s)) (h : OutputLaw s) :
    OutputLaw (unlessReforming own s).1 := by
  unfold unlessReforming
  split
  · exact h
  · exact rule

/-- SET POSITION (R44). -/
theorem outputLaw_movePosition (line step rep : Nat) (h : OutputLaw s) :
    OutputLaw (movePosition line step rep s).1 := by
  unfold movePosition
  split
  · exact h
  · split
    · exact h
    · split
      · exact h
      · exact outputLaw_finishMove _ (h.of_view rfl)

/-- SWAP NOW (R45). -/
theorem outputLaw_swapNow (h : OutputLaw s) : OutputLaw (swapNow s).1 := by
  unfold swapNow
  split
  · exact h
  · dsimp only
    split
    · exact h
    · split
      · exact h
      · exact outputLaw_finishMove _ (h.of_view (by simp [outputView, driverView]))

/-- UNLOAD: the output becomes none, and with no article the stop request and the drivers follow (R46, R98, R122). -/
theorem outputLaw_unloadArticle : OutputLaw (unloadArticle s) :=
  outputLaw_raiseIf _ _ _
    (outputLaw_followDrivers (fun _ => rfl) (stopFollows_followStop _) (outputAvailable_of_none rfl))

/-- RESYNC: the stop request and the drivers follow the engine (R178). -/
theorem outputLaw_resync (awake : s.inReset = false) (h : OutputLaw s) : OutputLaw (resync s).1 := by
  unfold resync
  split
  · exact h
  · exact h
  · split
    · exact outputLaw_followDrivers (by simp [awake]) (stopFollows_followStop _) h.output
    · exact h

/-- FEEDER OUT and FEEDER IN with their feeder (R86). -/
theorem outputLaw_withFeeder (n : Nat) {own : Fin 8 → State → State} (rule : ∀ f, OutputLaw (own f s))
    (h : OutputLaw s) : OutputLaw (withFeeder n own s).1 := by
  unfold withFeeder
  split
  · exact h
  · exact rule _

/-- LEVEL ON and LEVEL OFF (R68). -/
theorem outputLaw_setLevel (on : Bool) (h : OutputLaw s) : OutputLaw (setLevel on s) :=
  outputLaw_reformWhileWeaving (h.of_view rfl)

/-- SET TIMING (R16). -/
theorem outputLaw_setTiming (t : Timing) (h : OutputLaw s) : OutputLaw (setTiming t s).1 := by
  unfold setTiming
  split
  · exact h
  · split
    · exact h
    · exact h.of_view rfl

/-- SET DRIVE: the drivers follow the new settings (R121, R124). -/
theorem outputLaw_setDrive (p : List Byte) (h : OutputLaw s) : OutputLaw (setDrive p s).1 := by
  unfold setDrive
  split
  · exact h
  · exact outputLaw_followDrivers h.quiet h.stop h.output

/-- SET FLOAT GUARD (R73). -/
theorem outputLaw_setFloatGuard (mode up down : Nat) (h : OutputLaw s) :
    OutputLaw (setFloatGuard mode up down s).1 := by
  unfold setFloatGuard
  split
  · exact h
  · exact h.of_view rfl

/-- READ FRAME (R118). -/
theorem readFrame_state (n : Nat) : (readFrame n s).1 = s := by
  unfold readFrame
  split <;> rfl

end LoomLink

/-! ## Commands of the design link and the bursts -/

section DesignLink

variable {s : State}

/-- The banks reach no output. -/
theorem outputLaw_setBank (b : BankId) (x : Bank) (h : OutputLaw s) : OutputLaw (s.setBank b x) :=
  h.of_view (by simp [outputView, driverView])

/-- The pattern store reaches no output. -/
theorem outputLaw_store (x : PatternStore) (h : OutputLaw s) : OutputLaw { s with store := x } := h.of_view rfl

/-- A command that names a bank (spec/08). -/
theorem outputLaw_withBank (p : List Byte) {own : BankId → State → State × Reply} (rule : ∀ b, OutputLaw (own b s).1)
    (h : OutputLaw s) : OutputLaw (withBank p own s).1 := by
  unfold withBank
  split
  · exact h
  · exact rule _

/-- Emptying the readback buffer (R165). -/
theorem outputLaw_emptyReadback (b : BankId) (h : OutputLaw s) : OutputLaw (emptyReadback b s) := by
  unfold emptyReadback
  split
  · exact h.of_view (by simp [outputView, driverView])
  · exact h

/-- OPEN ARTICLE (R147). -/
theorem outputLaw_openArticle (p : List Byte) (b : BankId) (h : OutputLaw s) : OutputLaw (openArticle p b s).1 := by
  unfold openArticle
  dsimp only
  split
  · exact h
  · split
    · exact h
    · split
      · exact h
      · split
        · exact h
        · exact outputLaw_emptyReadback _ (outputLaw_setBank _ _ h)

/-- REOPEN (R148). -/
theorem outputLaw_reopenBank (b : BankId) (h : OutputLaw s) : OutputLaw (reopenBank b s).1 := by
  unfold reopenBank
  dsimp only
  split
  · exact h
  · split
    · exact h
    · exact outputLaw_raiseIf _ _ _ (outputLaw_setBank _ _ h)

/-- The DEFINE commands edit the record of a bank (R155). -/
theorem outputLaw_editRecord (b : BankId) (edit : Article → Except FieldFailure Article) (h : OutputLaw s) :
    OutputLaw (editRecord b edit s).1 := by
  unfold editRecord
  split
  · split
    · exact h
    · exact outputLaw_setBank _ _ h
  · exact h

/-- WRITE LINE adds at most an entry to the load queue (R159). -/
theorem outputLaw_writeLine (p : List Byte) (b : BankId) (h : OutputLaw s) : OutputLaw (writeLine p b s).1 := by
  unfold writeLine
  dsimp only
  split
  · exact h
  · split
    · exact h
    · split
      · exact h
      · split
        · exact h
        · split
          · exact h
          · split
            · exact h
            · exact outputLaw_grant (outputLaw_store _ h)

/-- The close validation (R150). -/
theorem outputLaw_finishClose (b : BankId) (h : OutputLaw s) : OutputLaw (finishClose b s) :=
  outputLaw_raise _ _ (outputLaw_setBank _ _ h)

/-- CLOSE ARTICLE (R149). -/
theorem outputLaw_closeArticle (b : BankId) (h : OutputLaw s) : OutputLaw (closeArticle b s).1 := by
  unfold closeArticle
  dsimp only
  split
  · exact h
  · split
    · exact outputLaw_finishClose _ (outputLaw_setBank _ _ h)
    · exact outputLaw_setBank _ _ h

/-- Install: the stop request and then the drivers follow the engine (R119, R152, R173). -/
theorem outputLaw_install (b : BankId) (awake : s.inReset = false) (h : OutputLaw s) : OutputLaw (install b s) := by
  unfold install
  refine outputLaw_startReform _ (outputLaw_followDrivers ?_ (stopFollows_followStop _) ?_)
  · simp [awake]
  · exact outputAvailable_congr (by simp) (by simp) h.output

/-- ARM (R151, R152). -/
theorem outputLaw_armBank (b : BankId) (awake : s.inReset = false) (h : OutputLaw s) : OutputLaw (armBank b s).1 := by
  unfold armBank
  split
  · exact h
  · split
    · exact outputLaw_setBank _ _ h
    · split
      · exact h
      · exact outputLaw_install _ awake h

/-- DISARM (R153). -/
theorem outputLaw_disarmBank (b : BankId) (h : OutputLaw s) : OutputLaw (disarmBank b s).1 := by
  unfold disarmBank
  split
  · exact h
  · split
    · exact h
    · exact outputLaw_setBank _ _ h

/-- DISCARD BANK (R154). -/
theorem outputLaw_discardBank (b : BankId) (h : OutputLaw s) : OutputLaw (discardBank b s).1 := by
  have emptied : OutputLaw (if (s.bank b).state == .opened then dropQueue s else s) := by
    split
    · exact h.of_view (by simp [outputView, driverView, dropQueue])
    · exact h
  unfold discardBank
  dsimp only
  split
  · exact h
  · split
    · exact h
    · split
      · exact h
      · exact outputLaw_emptyReadback _ (outputLaw_setBank _ _ emptied)

/-- READ LINE (R164). -/
theorem outputLaw_readLine (p : List Byte) (b : BankId) (h : OutputLaw s) : OutputLaw (readLine p b s).1 := by
  unfold readLine
  dsimp only
  split
  · exact h
  · split
    · exact h
    · split
      · exact h
      · split
        · exact h
        · split
          · exact h
          · exact outputLaw_grant (outputLaw_store _ h)

/-- FETCH LINE (R166). -/
theorem fetchLine_state : (fetchLine s).1 = s := by
  unfold fetchLine
  split <;> rfl

/-- A queue entry written (R161). -/
theorem outputLaw_finishEntry (e : QueueEntry) (rest : List QueueEntry) (h : OutputLaw s) :
    OutputLaw (finishEntry e rest s) := by
  have removed (x : Bank) (full : Bool) : OutputLaw (raiseIf full .design .queueSpace
      { s.setBank e.bank x with store.queue := rest }) :=
    outputLaw_raiseIf _ _ _ (outputLaw_store _ (outputLaw_setBank _ _ h))
  unfold finishEntry
  dsimp only
  split
  · exact outputLaw_finishClose _ (removed _ _)
  · exact removed _ _

/-- A burst of the oldest queue entry (R161). -/
theorem outputLaw_advanceQueue (h : OutputLaw s) : OutputLaw (advanceQueue s) := by
  unfold advanceQueue
  split
  · exact h
  · split
    · exact outputLaw_store _ h
    · exact outputLaw_finishEntry _ _ h

/-- A completed burst of the load queue (R161, R162). -/
theorem outputLaw_finishQueueBurst (b : Burst) (h : OutputLaw s) : OutputLaw (finishQueueBurst b s) := by
  have freed (m : Memory) : OutputLaw (freePort { s with store.memory := m }) := outputLaw_store _ (outputLaw_store _ h)
  unfold finishQueueBurst
  refine outputLaw_grant ?_
  split
  · exact freed _
  · exact outputLaw_advanceQueue (freed _)

/-- A completed burst of the frame builder (R110). -/
theorem outputLaw_finishFrameBurst (data : List Byte) (h : OutputLaw s) : OutputLaw (finishFrameBurst data s) :=
  outputLaw_grant (outputLaw_takeFrameData _ (outputLaw_store _ h))

/-- A completed readback burst (R164). -/
theorem outputLaw_finishReadbackBurst (data : List Byte) (h : OutputLaw s) :
    OutputLaw (finishReadbackBurst data s) := by
  have freed : OutputLaw (freePort s) := outputLaw_store _ h
  unfold finishReadbackBurst takeReadbackData
  refine outputLaw_grant ?_
  split
  · dsimp only
    split
    · exact outputLaw_store _ freed
    · exact outputLaw_raise _ _ (outputLaw_store _ freed)
  · exact freed

end DesignLink

/-! ## Every row and every step -/

section Steps

variable {s t : State}

/-- The law of a row's next state is that of the state it answers. -/
theorem outputLaw_of_next {x : State} (law : OutputLaw x)
    (answers : (.next x : Host.Outcome State Fault Refusal) = .next t) : OutputLaw t := by
  cases answers
  exact law

/-- A row that reaches no block while a reset is applied (R198). -/
theorem outputLaw_unlessReset {x : State} (law : s.inReset = false → OutputLaw x) (h : OutputLaw s) :
    OutputLaw (if s.inReset then s else x) := by
  split
  case isTrue => exact h
  case isFalse awake => exact law (Bool.eq_false_iff.mpr awake)

/-- A reading burst completes with its data, is dropped, or finds a byte without a value (R163). -/
theorem outputLaw_finishRead {b : Burst} {take : List Byte → State → State} (law : ∀ data, OutputLaw (take data s))
    (h : OutputLaw s) (answers : finishRead b take s = .next t) : OutputLaw t := by
  unfold finishRead at answers
  split at answers
  · exact outputLaw_of_next (outputLaw_grant (outputLaw_store _ h)) answers
  · split at answers
    · exact outputLaw_of_next (law _) answers
    · cases answers

/-- FRAME_READ_BURST_DONE (R110). -/
theorem outputLaw_frameReadBurstDone (h : OutputLaw s) (answers : execFrameReadBurstDone s = .next t) :
    OutputLaw t := by
  unfold execFrameReadBurstDone at answers
  split at answers
  · exact outputLaw_finishRead (fun _ => outputLaw_finishFrameBurst _ h) h answers
  · exact outputLaw_of_next h answers

/-- LOAD_QUEUE_BURST_DONE (R161). -/
theorem outputLaw_loadQueueBurstDone (h : OutputLaw s) (answers : execLoadQueueBurstDone s = .next t) :
    OutputLaw t := by
  unfold execLoadQueueBurstDone at answers
  split at answers
  · exact outputLaw_of_next (outputLaw_finishQueueBurst _ h) answers
  · exact outputLaw_of_next h answers

/-- READBACK_BURST_DONE (R164). -/
theorem outputLaw_readbackBurstDone (h : OutputLaw s) (answers : execReadbackBurstDone s = .next t) :
    OutputLaw t := by
  unfold execReadbackBurstDone at answers
  split at answers
  · exact outputLaw_finishRead (fun _ => outputLaw_finishReadbackBurst _ h) h answers
  · exact outputLaw_of_next h answers

/-- UNKNOWN_COMMAND reaches its link alone (R185). -/
theorem outputLaw_unknownCommand {k : Link} {code : Byte} {p : List Byte} (h : OutputLaw s)
    (answers : execUnknownCommand k code p s = .next t) : OutputLaw t := by
  unfold execUnknownCommand transactUnknown at answers
  split at answers
  · cases answers
  · refine outputLaw_of_next ?_ answers
    split
    · exact h
    · split
      · exact outputLaw_setLink _ _ h
      · exact outputLaw_setLink _ _ h

/-- OVER_LONG_LENGTH reaches its link alone (R186). -/
theorem outputLaw_overLongLength {k : Link} {code : Byte} {n : BitVec 16} (h : OutputLaw s)
    (answers : execOverLongLength k code n s = .next t) : OutputLaw t := by
  unfold execOverLongLength at answers
  split at answers
  · cases answers
  · refine outputLaw_of_next ?_ answers
    split
    · exact outputLaw_setLink _ _ h
    · exact h

/-- RELEASE_INPUT_CHANGE, in and outside reset (R120). -/
theorem outputLaw_releaseInputChange (i : ReleaseInput) (b : Bool) (h : OutputLaw s) :
    OutputLaw (if s.inReset then trackReleaseInput i b s else setReleaseInput i b s) := by
  split
  case isTrue applied => exact outputLaw_trackReleaseInput _ _ applied h
  case isFalse => exact outputLaw_setReleaseInput _ _ h

/-- The row of a command, by its own rule. -/
theorem outputLaw_command {k : Link} {code : Byte} {o : Offer} {lo hi : Nat} {p : List Byte}
    {own : State → State × Reply} (h : OutputLaw s) (rule : s.inReset = false → OutputLaw (own s).1) :
    (.next (transact k code o lo hi p own s) : Host.Outcome State Fault Refusal) = .next t → OutputLaw t :=
  outputLaw_of_next (outputLaw_transact rule h)

/-- The row of a command that names a bank, by its own rule for that bank. -/
theorem outputLaw_bankCommand {k : Link} {code : Byte} {o : Offer} {lo hi : Nat} {p : List Byte}
    {own : BankId → State → State × Reply} (h : OutputLaw s)
    (rule : s.inReset = false → ∀ b, OutputLaw (own b s).1) :
    (.next (transact k code o lo hi p (withBank p own) s) : Host.Outcome State Fault Refusal) = .next t →
      OutputLaw t :=
  outputLaw_command h fun awake => outputLaw_withBank p (rule awake) h

/-- Every row keeps the law. -/
theorem outputLaw_exec (i : Instr) (h : OutputLaw s) : exec i s = .next t → OutputLaw t := by
  cases i with
  | encoderCount dir => exact outputLaw_of_next (outputLaw_unlessReset (fun _ => outputLaw_shaftCount dir h) h)
  | illegalStep => exact outputLaw_of_next (outputLaw_unlessReset (fun awake => outputLaw_illegalStep awake h) h)
  | index => exact outputLaw_of_next (outputLaw_unlessReset (fun awake => outputLaw_takeIndex awake h) h)
  | stillTimerExpiry =>
    refine outputLaw_of_next ?_
    split
    · exact outputLaw_stillExpiry h
    · exact h
  | standstillHold =>
    refine outputLaw_of_next ?_
    split
    · exact outputLaw_firstExpiry h
    · exact h
  | standstillRelease =>
    refine outputLaw_of_next ?_
    split
    · exact outputLaw_secondExpiry h
    · exact h
  | releaseInputChange input asserted => exact outputLaw_of_next (outputLaw_releaseInputChange input asserted h)
  | forwardFrameComplete => exact outputLaw_of_next (outputLaw_completeForward h)
  | reformCompletion => exact outputLaw_of_next (outputLaw_completeReform h)
  | frameReadBurstDone => exact outputLaw_frameReadBurstDone h
  | loadQueueBurstDone => exact outputLaw_loadQueueBurstDone h
  | readbackBurstDone => exact outputLaw_readbackBurstDone h
  | unknownCommand k code p => exact outputLaw_unknownCommand h
  | overLongLength k code length => exact outputLaw_overLongLength h
  | selectReleasedEarly k => exact outputLaw_of_next (outputLaw_setLink _ _ h)
  | status k p => exact outputLaw_command h fun _ => h.of_view rfl
  | readEvents k p => exact outputLaw_command h fun _ => h
  | clearEvents k p => exact outputLaw_command h fun _ => outputLaw_setLink _ _ h
  | setEnables k p => exact outputLaw_command h fun _ => outputLaw_setLink _ _ h
  | note k p => exact outputLaw_command h fun _ => outputLaw_sendNote _ _ h
  | readNote k p => exact outputLaw_command h fun _ => outputLaw_readNote _ h
  | readHistory k p => exact outputLaw_command h fun _ => h
  | readFault k p => exact outputLaw_command h fun _ => h
  | claimHarness k p => exact outputLaw_command h fun _ => outputLaw_claimHarness _ h
  | writeChain k p => exact outputLaw_command h fun _ => outputLaw_editShadow _ _ h
  | writeSection k p => exact outputLaw_command h fun _ => outputLaw_editShadow _ _ h
  | writeSelvage k p => exact outputLaw_command h fun _ => outputLaw_editShadow _ _ h
  | commitHarness k p => exact outputLaw_command h fun _ => outputLaw_commitHarness _ h
  | discardHarness k p => exact outputLaw_command h fun _ => outputLaw_discardHarness _ h
  | readHarness k p => exact outputLaw_command h fun _ => by rwa [readHarness_state]
  | readArticle k p => exact outputLaw_command h fun _ => by rwa [readArticle_state]
  | clearFault k p => exact outputLaw_command h fun _ => outputLaw_clearFault h
  | stepBack k p =>
    exact outputLaw_command h fun _ => outputLaw_whenMovable (outputLaw_unlessReforming (outputLaw_stepBack _ h) h) h
  | stepForward k p =>
    exact outputLaw_command h fun _ => outputLaw_whenMovable (outputLaw_unlessReforming (outputLaw_stepForward _ h) h) h
  | setPosition k p => exact outputLaw_command h fun _ => outputLaw_whenMovable (outputLaw_movePosition _ _ _ h) h
  | setPickCount k p => exact outputLaw_command h fun _ => h.of_view rfl
  | setPieceTarget k p => exact outputLaw_command h fun _ => h.of_view rfl
  | swapNow k p => exact outputLaw_command h fun _ => outputLaw_whenMovable (outputLaw_swapNow h) h
  | unload k p => exact outputLaw_command h fun _ => outputLaw_whenMovable outputLaw_unloadArticle h
  | resync k p => exact outputLaw_command h fun awake => outputLaw_resync awake h
  | feederOut k p => exact outputLaw_command h fun _ => outputLaw_withFeeder _ (fun f => outputLaw_takeFeederOut f h) h
  | feederIn k p => exact outputLaw_command h fun _ => outputLaw_withFeeder _ (fun f => outputLaw_bringFeederIn f h) h
  | levelOn k p => exact outputLaw_command h fun _ => outputLaw_setLevel true h
  | levelOff k p => exact outputLaw_command h fun _ => outputLaw_setLevel false h
  | setTiming k p => exact outputLaw_command h fun _ => outputLaw_setTiming _ h
  | setDrive k p => exact outputLaw_command h fun _ => outputLaw_setDrive _ h
  | setFloatGuard k p => exact outputLaw_command h fun _ => outputLaw_setFloatGuard _ _ _ h
  | setMargin k p => exact outputLaw_command h fun _ => h.of_view rfl
  | lockKeep k p => exact outputLaw_command h fun _ => h.of_view rfl
  | unlock k p => exact outputLaw_command h fun _ => h.of_view rfl
  | lockFixed k p => exact outputLaw_command h fun _ => h.of_view rfl
  | breakClaim k p => exact outputLaw_command h fun _ => outputLaw_breakClaim h
  | readFrame k p => exact outputLaw_command h fun _ => by rwa [readFrame_state]
  | openArticle k p => exact outputLaw_bankCommand h fun _ b => outputLaw_openArticle _ b h
  | reopen k p => exact outputLaw_bankCommand h fun _ b => outputLaw_reopenBank b h
  | defineScheme k p => exact outputLaw_bankCommand h fun _ b => outputLaw_editRecord b _ h
  | defineWeave k p => exact outputLaw_bankCommand h fun _ b => outputLaw_editRecord b _ h
  | defineFeeders k p => exact outputLaw_bankCommand h fun _ b => outputLaw_editRecord b _ h
  | writeLine k p => exact outputLaw_bankCommand h fun _ b => outputLaw_writeLine _ b h
  | closeArticle k p => exact outputLaw_bankCommand h fun _ b => outputLaw_closeArticle b h
  | arm k p => exact outputLaw_bankCommand h fun awake b => outputLaw_armBank b awake h
  | disarm k p => exact outputLaw_bankCommand h fun _ b => outputLaw_disarmBank b h
  | discardBank k p => exact outputLaw_bankCommand h fun _ b => outputLaw_discardBank b h
  | readLine k p => exact outputLaw_bankCommand h fun _ b => outputLaw_readLine _ b h
  | fetchLine k p => exact outputLaw_command h fun _ => by rwa [fetchLine_state]
  | resetPin ra rb => exact outputLaw_of_next (outputLaw_resetPin ra rb)
  | powerOnReset ra rb => exact outputLaw_of_next (outputLaw_afterReset ra rb _ false)
  | selectReleased k => exact outputLaw_of_next (outputLaw_setLink _ _ h)
  | resetEnd lineA lineB loomSelect designSelect =>
    refine outputLaw_of_next ?_
    split
    · exact outputLaw_endReset _ _ _ _ h
    · exact h

/-- What the lines of a link bring keeps the law: its own interface, or a row (R182, R183, R187). -/
theorem outputLaw_takeWire (w : Wire) (h : OutputLaw s) (taken : takeWire w s = .next t) : OutputLaw t := by
  rcases takeWire_cases w s with e | ⟨k, l, -, e⟩ | ⟨k, b, -, e⟩ | ⟨k, b, i, -, e⟩ | ⟨k, e | e⟩ <;> rw [e] at taken
  · exact outputLaw_of_next h taken
  · exact outputLaw_of_next (outputLaw_setLink _ _ h) taken
  · exact outputLaw_of_next (outputLaw_setLink _ _ h) taken
  · exact outputLaw_exec _ (outputLaw_setLink _ _ h) taken
  · exact outputLaw_exec _ h taken
  · exact outputLaw_exec _ h taken

/-- Every step keeps the law. -/
theorem outputLaw_step (h : OutputLaw s) (stepped : step s = .next t) : OutputLaw t := by
  rcases step_cases s with ⟨c, rest, -, e⟩ | ⟨w, rest, -, -, e⟩ | ⟨-, -, e⟩ <;> rw [e] at stepped
  · exact outputLaw_exec c (s := { s with pending := rest }) (h.of_view rfl) stepped
  · exact outputLaw_takeWire w (s := { s with wires := rest }) (h.of_view rfl) stepped
  · exact outputLaw_of_next (outputLaw_tick h) stepped

end Steps

/-- Settles O53: the law of the outputs is kept by every step. -/
theorem outputsFollowAtEveryStep : Obligations.OutputsFollowAtEveryStep := by
  intro s t quiet stop drivers output stepped
  obtain ⟨quiet, stop, drivers, output⟩ := outputLaw_step ⟨quiet, stop, drivers, output⟩ stepped
  exact ⟨quiet, stop, drivers, output⟩

end Sys2Proof.Proofs
end

section
/-! PROOF. The transactions of the links (spec/10): the checks at the link for every row of a command (R185), an
over-long length and the release of select (R186, R187), and the commands of events and notes (R193–R196). -/

namespace Sys2Proof.Proofs

open Sys2Proof.Machine

section Rows

/-! ## The row of a command is the transaction its code, offer and lengths name (R182, R185, R190) -/

/-- Every row of a command is one transaction on its link, with the code of R200, the offer and the lengths that
`commandOffer` gives it, and a rule of its own. -/
theorem exec_eq_transact {i : Instr} {k : Link} {code : Byte} {o : Offer} {lo hi : Nat}
    (named : i.codeOf = some (k, code)) (offered : commandOffer i = some (o, lo, hi)) :
    ∃ own : State → State × Reply, ∀ s, exec i s = .next (transact k code o lo hi i.params own s) := by
  cases i with
  | encoderCount | illegalStep | index | stillTimerExpiry | standstillHold | standstillRelease | releaseInputChange
  | forwardFrameComplete | reformCompletion | frameReadBurstDone | loadQueueBurstDone | readbackBurstDone
  | unknownCommand | overLongLength | selectReleasedEarly | resetPin | powerOnReset | selectReleased | resetEnd =>
    cases offered
  | _ =>
    cases named
    cases offered
    exact ⟨_, fun _ => rfl⟩

/-- The row of a code that names no command (R185). -/
theorem exec_unknownCommand {code : Byte} (unnamed : namesCommand code = false) (k : Link) (p : List Byte) (s : State) :
    exec (.unknownCommand k code p) s = .next (transactUnknown k code p s) := by
  have arm : exec (.unknownCommand k code p) s = execUnknownCommand k code p s := rfl
  simp [arm, execUnknownCommand, unnamed]

end Rows

/-- Settles O20: each row is a transaction (`exec_eq_transact`), whose checks are the cases of `transact`. -/
theorem linkChecksInOrder : Obligations.LinkChecksInOrder := by
  refine ⟨fun k code p s unnamed listens short => ?_, fun i k code o lo hi s named offered listens short => ?_⟩
  · rw [exec_unknownCommand unnamed, transactUnknown_own listens short]
  · obtain ⟨own, row⟩ := exec_eq_transact named offered
    rw [row]
    exact ⟨fun wrong => congrArg Host.Outcome.next (transact_wrongLink listens short wrong),
      fun right misfit => congrArg Host.Outcome.next (transact_length listens short right misfit)⟩

section OverLong

/-! ## An over-long length and the bytes after it (R186) -/

/-- A link that discards goes on discarding, and only its place moves (R186). -/
theorem iterate_passByte_discarding (l : LinkState) (discards : l.phase = .discarding) (m : Nat) :
    LinkState.passByte^[m] l = { l with place := l.place + m } := by
  induction m with
  | zero => rfl
  | succ m ih => rw [Function.iterate_succ_apply', ih, LinkState.passByte, discards, Nat.add_assoc]

/-- The reply frame of LENGTH: status and reason, and no reply data (R200). -/
theorem frame_refused_length (n : Nat) : (Reply.refused .length (.number n)).frame = [0x04#8, 0x03#8, 0#8, 0#8] := by
  simp [Reply.frame, Reply.data, Reply.status, Reply.reasonByte, Reason.code, u8, u16]

/-- At each place after an over-long length the part sends that byte of the frame, and 0 beyond its end (R186). -/
theorem dataOut_refuseOverLong (code : Byte) (n : Nat) (l : LinkState) (m : Nat) :
    (l.refuseOverLong code n).dataOut m = if m = 0 then 0x04#8 else if m = 1 then 0x03#8 else 0#8 := by
  have sent : (l.refuseOverLong code n).dataOut m = (Reply.refused .length (.number n)).frame.getD m 0#8 := rfl
  rw [sent, frame_refused_length]
  rcases m with _ | _ | _ | _ | m <;> simp

/-- An over-long length on a link that listens is refused at once (R186). -/
theorem exec_overLongLength {k : Link} {n : BitVec 16} {s : State} (code : Byte) (long : 2064 < n.toNat)
    (listens : s.listens k = true) :
    exec (.overLongLength k code n) s = .next (s.setLink k ((s.link k).refuseOverLong code n.toNat)) := by
  have arm : exec (.overLongLength k code n) s = execOverLongLength k code n s := rfl
  have tooLong : ¬ n.toNat ≤ maxParams := Nat.not_le.mpr long
  simp [arm, execOverLongLength, tooLong, listens, refuseOverLong]

end OverLong

/-- Settles O21: the refused link sends its frame while its place moves on; a release is the idle link in both rows. -/
theorem overLongLengthAndRelease : Obligations.OverLongLengthAndRelease := by
  refine ⟨fun k code n s long listens => ?_, fun k s l idle => ?_⟩
  · refine ⟨(s.link k).refuseOverLong code n.toNat, exec_overLongLength code long listens, rfl,
      fun m x clocked => ?_⟩
    have moved : x = { (s.link k).refuseOverLong code n.toNat with place := m } := by
      rw [clocked, iterate_passByte_discarding _ rfl]
      exact congrArg (fun place => { (s.link k).refuseOverLong code n.toNat with place }) (Nat.zero_add m)
    refine ⟨moved, ?_⟩
    rw [moved]
    exact dataOut_refuseOverLong code n.toNat (s.link k) m
  · rw [idle]
    exact ⟨rfl, rfl⟩

section Events

variable (k : Link) (s : State)

/-! ## Flag words and event bits (R191, R203) -/

/-- A flag word goes out most significant byte first (R203). -/
theorem u16_toNat (w : BitVec 16) : u16 w.toNat = [w.extractLsb' 8 8, w.extractLsb' 0 8] := by
  have high : BitVec.ofNat 8 (w.toNat / 256) = w.extractLsb' 8 8 := by
    apply BitVec.eq_of_toNat_eq
    simp [Nat.shiftRight_eq_div_pow]
  have low : BitVec.ofNat 8 w.toNat = w.extractLsb' 0 8 := by
    apply BitVec.eq_of_toNat_eq
    simp
  rw [u16, high, low]

/-- A flag word comes in most significant byte first (R203). -/
theorem flagsAt_pair (a b : Byte) : flagsAt [a, b] 0 = a ++ b := by
  apply BitVec.eq_of_toNat_eq
  have word : wordAt [a, b] 0 = a.toNat * 2 ^ 8 + b.toNat := rfl
  rw [flagsAt, word, BitVec.toNat_ofNat, BitVec.toNat_append, ← Nat.shiftLeft_eq,
    Nat.shiftLeft_add_eq_or_of_lt b.isLt, ← BitVec.toNat_append]
  exact Nat.mod_eq_of_lt (a ++ b).isLt

/-- The number of the NOTE event on a link (the table of R191). -/
def noteNumber : Link → Nat
  | .loom => 7
  | .design => 8

/-- The bit of NOTE is that of its number. -/
theorem eventBit_note : eventBit k .note = BitVec.twoPow 16 (noteNumber k) := by cases k <;> rfl

/-- Marks hit the NOTE event where the bit of its number is set. -/
theorem marks_note (marks : BitVec 16) : ((marks &&& eventBit k .note) != 0#16) = marks.getLsbD (noteNumber k) := by
  have one : (BitVec.twoPow 16 (noteNumber k) != 0#16) = true := by cases k <;> rfl
  rw [eventBit_note, BitVec.and_twoPow]
  split
  case isTrue marked => rw [one, marked]
  case isFalse unmarked => simpa using unmarked

/-! ## What the commands of events and notes write (R193–R196) -/

/-- CLEAR EVENTS clears the marked flags, with attention, and empties the slot where NOTE is marked (R194, R196). -/
theorem clearEvents_eq (marks : BitVec 16) :
    clearEvents k marks s = s.setLink k { s.link k with
      flags := (s.link k).flags &&& ~~~marks
      attention := (((s.link k).flags &&& ~~~marks) &&& (s.link k).enables) != 0#16
      noteSlot := if marks.getLsbD (noteNumber k) then none else (s.link k).noteSlot } := by
  rw [← marks_note k marks]
  rfl

/-- A note stored in a slot raises the NOTE flag of that link, with attention (R195). -/
theorem storeNote_eq (v : Byte) :
    storeNote k v s = s.setLink k { s.link k with
      noteSlot := some v
      flags := (s.link k).flags ||| eventBit k .note
      attention := (((s.link k).flags ||| eventBit k .note) &&& (s.link k).enables) != 0#16 } := by
  cases k <;> rfl

/-- NOTE while the other link's slot is full (R195). -/
theorem sendNote_full (v : Byte) (full : (s.link (otherLink k)).noteSlot.isSome = true) :
    sendNote k v s = (s, .busy) := by
  simp [sendNote, full, busy]

/-- NOTE while the other link's slot is empty (R195). -/
theorem sendNote_empty (v : Byte) (empty : (s.link (otherLink k)).noteSlot = none) :
    sendNote k v s = (storeNote (otherLink k) v s, .done []) := by
  simp [sendNote, empty, done]

/-- READ NOTE of a full slot empties it and clears the NOTE flag, with attention (R196). -/
theorem readNote_full (w : Byte) (full : (s.link k).noteSlot = some w) :
    readNote k s = (s.setLink k { s.link k with
      noteSlot := none
      flags := (s.link k).flags &&& ~~~eventBit k .note
      attention := (((s.link k).flags &&& ~~~eventBit k .note) &&& (s.link k).enables) != 0#16 },
      .done [0x01#8, w]) := by
  have marked : (eventBit k .note).getLsbD (noteNumber k) = true := by cases k <;> rfl
  have rule : readNote k s = (clearEvents k (eventBit k .note) s, .done [0x01#8, w]) := by
    rw [readNote, full]
    rfl
  rw [rule, clearEvents_eq, if_pos marked]

/-- READ NOTE of an empty slot marks that no note is held (R196). -/
theorem readNote_empty (empty : (s.link k).noteSlot = none) : readNote k s = (s, .done [0#8, 0#8]) := by
  rw [readNote, empty]
  rfl

/-! ## The rows on a link that listens -/

/-- A command of both links whose parameters have its one length is answered by its own rule (R182). -/
theorem transact_both_fixed {p : List Byte} (code : Byte) (own : State → State × Reply) (h : s.listens k = true)
    (hp : p.length ≤ maxParams) :
    transact k code .both p.length p.length p own s = answer k code (own s).2 (own s).1 :=
  transact_own h hp rfl (Nat.le_refl _) (Nat.le_refl _)

/-- READ EVENTS on a link that listens (R194). -/
theorem exec_readEvents (h : s.listens k = true) :
    exec (.readEvents k []) s = .next (answer k 0x02 (.done (readEventsBytes (s.link k))) s) :=
  congrArg Host.Outcome.next (transact_both_bare k s 0x02 (fun s => (s, .done (readEventsBytes (s.link k)))) h)

/-- CLEAR EVENTS on a link that listens (R194). -/
theorem exec_clearEvents (a b : Byte) (h : s.listens k = true) :
    exec (.clearEvents k [a, b]) s = .next (answer k 0x03 (.done []) (clearEvents k (flagsAt [a, b] 0) s)) :=
  congrArg Host.Outcome.next
    (transact_both_fixed k s 0x03 (fun s => done (clearEvents k (flagsAt [a, b] 0) s)) h (by simp [maxParams]))

/-- SET ENABLES on a link that listens (R193). -/
theorem exec_setEnables (a b : Byte) (h : s.listens k = true) :
    exec (.setEnables k [a, b]) s = .next (answer k 0x04 (.done []) (setEnables k (flagsAt [a, b] 0) s)) :=
  congrArg Host.Outcome.next
    (transact_both_fixed k s 0x04 (fun s => done (setEnables k (flagsAt [a, b] 0) s)) h (by simp [maxParams]))

/-- NOTE on a link that listens (R195). -/
theorem exec_note (v : Byte) (h : s.listens k = true) :
    exec (.note k [v]) s = .next (answer k 0x05 (sendNote k v s).2 (sendNote k v s).1) :=
  congrArg Host.Outcome.next (transact_both_fixed k s 0x05 (sendNote k v) h (by simp [maxParams]))

/-- READ NOTE on a link that listens (R196). -/
theorem exec_readNote (h : s.listens k = true) :
    exec (.readNote k []) s = .next (answer k 0x06 (readNote k s).2 (readNote k s).1) :=
  congrArg Host.Outcome.next (transact_both_bare k s 0x06 (readNote k) h)

end Events

/-- Settles O25: each row through its link, then what its own rule writes; NOTE stands at its number on either link. -/
theorem eventAndNoteCommands : Obligations.EventAndNoteCommands := by
  refine ⟨fun k a b s hs => ⟨?_, ?_, ?_⟩, fun k v s hs => ⟨fun full => ?_, fun empty => ?_, fun w full => ?_,
    fun empty => ?_⟩⟩
  · rw [exec_readEvents k s hs, readEventsBytes, u16_toNat, u16_toNat]
    rfl
  · rw [exec_setEnables k s a b hs, flagsAt_pair]
    rfl
  · rw [exec_clearEvents k s a b hs, flagsAt_pair, clearEvents_eq]
    cases k <;> rfl
  · rw [exec_note k s v hs, sendNote_full k s v full]
  · rw [exec_note k s v hs, sendNote_empty k s v empty, storeNote_eq]
    cases k <;> rfl
  · rw [exec_readNote k s hs, readNote_full k s w full]
    cases k <;> rfl
  · rw [exec_readNote k s hs, readNote_empty k s empty]

end Sys2Proof.Proofs
end

section
/-! PROOF. What a row can do, once for every law that the steps keep: the effects of the rows, each with the checks it has
passed (`Effect`), what a command's own rule answers (`Answers`), and the rows, the lines of the links and the steps made
of them (`exec_cases`, `Kept.step`). -/

namespace Sys2Proof.Proofs

open Sys2Proof.Machine

/-! ## Effects -/

/-- An edit that WRITE CHAIN, WRITE SECTION or WRITE SELVAGE makes of a shadow table (R131–R133). -/
def EditsTable (t t' : HarnessTable) : Prop :=
  ∃ p, writeChain p t = .ok t' ∨ writeSection p t = .ok t' ∨ writeSelvage p t = .ok t'

/-- An edit that DEFINE SCHEME, DEFINE WEAVE or DEFINE FEEDERS makes of an article record (R156–R158). -/
def EditsArticle (a a' : Article) : Prop :=
  ∃ p, defineScheme p a = .ok a' ∨ defineWeave p a = .ok a' ∨ defineFeeders p a = .ok a'

/-- What a row does to the state but for its answer and but for a burst of the load queue, with the checks it has
passed. -/
inductive Effect (s : State) : State → Prop
  -- events of the shaft, the timers and the release inputs
  | nothing : Effect s s
  | count (dir : Direction) : Effect s (shaftCount dir s)
  | illegal : Effect s (illegalStep s)
  | index : Effect s (takeIndex s)
  | stillTimer : Effect s (stillExpiry s)
  | firstStandstill : Effect s (firstExpiry s)
  | secondStandstill : Effect s (secondExpiry s)
  | trackInput (i : ReleaseInput) (b : Bool) : Effect s (trackReleaseInput i b s)
  | setInput (i : ReleaseInput) (b : Bool) : Effect s (setReleaseInput i b s)
  -- completions and reading bursts
  | forwardComplete : Effect s (completeForward s)
  | reformComplete : Effect s (completeReform s)
  | frameData (data : List Byte) : Effect s (finishFrameBurst data s)
  | readbackData (data : List Byte) : Effect s (finishReadbackBurst data s)
  | droppedRead : Effect s (grant (freePort s))
  -- links
  | release (k : Link) : Effect s (s.setLink k (s.link k).release)
  | drawFree : Effect s (drawFree s)
  | clearEvents (k : Link) (marks : BitVec 16) : Effect s (clearEvents k marks s)
  | setEnables (k : Link) (e : BitVec 16) : Effect s (setEnables k e s)
  | storeNote (k : Link) (v : Byte) : Effect s (storeNote k v s)
  -- the harness claim
  | claim (k : Link) : Effect s (setShadow k s.harness.live s)
  | shadow (k : Link) (t t' : HarnessTable) (held : s.shadowOf k = some t) (edits : EditsTable t t') :
      Effect s (setShadow k t' s)
  | commit (k : Link) (t : HarnessTable) (held : s.shadowOf k = some t) (valid : t.failure s.weavingWidth = none) :
      Effect s (commitTable k t s)
  | freeClaim (k : Link) : Effect s (raise k .claimFreed (dropClaim s))
  | keep (b : Bool) : Effect s { s with harness.keep := b }
  | fixed : Effect s { s with harness.fixed := true }
  -- the loom link's commands
  | clearFault : Effect s (clearFault s)
  | stepBack (n : Nat) (rest : s.Movable) : Effect s (stepBack n s)
  | stepForward (n : Nat) (rest : s.Movable) : Effect s (stepForward n s)
  | setPosition (p : Position) (line step rep : Nat) (rest : s.Movable) (at_ : s.pick.position = some p)
      (holds : (s.article p.bank).Holds line step) :
      Effect s (finishMove .set (setPosition { bank := p.bank, line := line, step := step, rep := rep } s))
  | pickCount (n : Nat) : Effect s { s with pick.counter := n }
  | pieceTarget (n : Nat) : Effect s { s with pick.target := n }
  | swapNow (p : Position) (rest : s.Movable) (at_ : s.pick.position = some p)
      (waits : (s.bank (otherBank p.bank)).state = .ready ∨ (s.bank (otherBank p.bank)).state = .armed)
      (fits : s.fits (otherBank p.bank) = true) : Effect s (finishMove .swap (commitSwap p s))
  | unload (rest : s.Movable) : Effect s (unloadArticle s)
  | resync (unsynchronised : s.pick.engine = .unsynchronised) : Effect s (resyncShaft s)
  | feederOut (f : Fin 8) : Effect s (takeFeederOut f s)
  | feederIn (f : Fin 8) : Effect s (bringFeederIn f s)
  | level (on : Bool) : Effect s (setLevel on s)
  | timing (p : List Byte) (valid : (timingOf p).failure = none) : Effect s (applyTiming (timingOf p) s)
  | drive (d : DriveSettings) : Effect s (applyDrive d s)
  | floatGuard (m : GuardMode) (up down : Nat) :
      Effect s (clearFloat { s with frame.guard := { mode := m, up := floatLimit up, down := floatLimit down } })
  | margin (n : Nat) : Effect s { s with shaft.margin := min n 65535 }
  -- the design link's commands
  | openBank (b : BankId) (w h : Nat) (f : Face) (free : Openable b s) (height : 1 ≤ h) :
      Effect s (emptyReadback b
        (s.setBank b { state := .opened, record := some (Article.fresh w h f), closeResult := .none }))
  | reopen (b : BankId)
      (closed : (s.bank b).state = .ready ∨ (s.bank b).state = .retired ∨
        ((s.bank b).state = .armed ∧ s.swapPending = false))
      (free : (s.bank (otherBank b)).state.beingLoaded = false) :
      Effect s (raiseIf ((s.bank b).state == .armed) .design .disarmed
        (s.setBank b { ((s.bank b).withRetained none) with state := .opened, closeResult := .none }))
  | define (b : BankId) (a : Article) (opened : (s.bank b).state = .opened) (edits : EditsArticle (s.article b) a) :
      Effect s (s.setBank b { s.bank b with record := some a })
  | queueLine (e : QueueEntry) (opened : (s.bank e.bank).state = .opened) (room : s.store.queue.length ≠ 4) :
      Effect s (grant { s with store.queue := s.store.queue ++ [e] })
  | closeWaits (b : BankId) (opened : (s.bank b).state = .opened) (waits : s.store.queue ≠ []) :
      Effect s (s.setBank b ((s.bank b).withState .closing))
  | closeNow (b : BankId) (opened : (s.bank b).state = .opened) (drained : s.store.queue = []) :
      Effect s (finishClose b (s.setBank b ((s.bank b).withState .closing)))
  | arm (b : BankId) (ready : (s.bank b).state = .ready) (beside : (s.bank (otherBank b)).state = .weaving) :
      Effect s (s.setBank b ((s.bank b).withState .armed))
  | install (b : BankId) (ready : (s.bank b).state = .ready) (alone : (s.bank (otherBank b)).state ≠ .weaving)
      (fits : s.fits b = true) : Effect s (install b s)
  | disarm (b : BankId) (armed : (s.bank b).state = .armed) (free : s.swapPending = false) :
      Effect s (s.setBank b ((s.bank b).withState .ready))
  | discardOpen (b : BankId) (opened : (s.bank b).state = .opened) :
      Effect s (emptyReadback b ((dropQueue s).setBank b Bank.reset))
  | discardClosed (b : BankId)
      (closed : (s.bank b).state = .ready ∨ (s.bank b).state = .retired ∨
        ((s.bank b).state = .armed ∧ s.swapPending = false)) :
      Effect s (emptyReadback b (s.setBank b Bank.reset))
  | readLine (job : ReadJob) (free : s.store.readback.isFilling = false) :
      Effect s (grant { s with store.readback := .filling job [] })
  -- resets
  | resetPin (ra rb : Bool) : Effect s (keepFixed s (afterReset ra rb s))
  | powerOn (ra rb : Bool) : Effect s (afterReset ra rb s)
  | resetEnd (a b x y : Bool) : Effect s (endReset a b x y s)

/-! ## What a command's own rule answers (R184) -/

/-- A reply that says something was done. -/
def saysTaken : Reply → Bool
  | .done _ => true
  | .started => true
  | _ => false

/-- A rule leaves the state, or has its effect and says so. -/
def Answers (s : State) (q : State × Reply) : Prop := q.1 = s ∨ (Effect s q.1 ∧ saysTaken q.2 = true)

section Rules

variable {s : State}

/-- A rule that only answers. -/
theorem answers_still (r : Reply) : Answers s (s, r) := .inl rfl

/-- A rule that is taken. -/
theorem answers_done {t : State} (e : Effect s t) : Answers s (done t) := .inr ⟨e, rfl⟩

/-- The checks of R42 pass where the loom is at rest and an article weaves in step. -/
theorem moveRefusal_eq_none_iff : s.moveRefusal = none ↔ s.Movable := by
  unfold State.moveRefusal
  cases h : s.pick.engine <;> simp [h, State.Movable]

/-- NOTE (R195). -/
theorem sendNote_answers (k : Link) (v : Byte) : Answers s (sendNote k v s) := by
  unfold sendNote
  split
  · exact answers_still _
  · exact answers_done (.storeNote _ v)

/-- READ NOTE (R196). -/
theorem readNote_answers (k : Link) : Answers s (readNote k s) := by
  unfold readNote
  split
  · exact answers_still _
  · exact .inr ⟨.clearEvents k _, rfl⟩

/-- CLAIM HARNESS (R130). -/
theorem claimHarness_answers (k : Link) : Answers s (claimHarness k s) := by
  unfold claimHarness
  split
  · exact answers_still _
  · split
    · exact answers_still _
    · split
      · exact answers_still _
      · exact answers_done (.claim k)

/-- WRITE CHAIN, WRITE SECTION and WRITE SELVAGE (R131–R133). -/
theorem editShadow_answers (k : Link) (edit : HarnessTable → Except FieldFailure HarnessTable)
    (edits : ∀ t t', edit t = .ok t' → EditsTable t t') : Answers s (editShadow k edit s) := by
  unfold editShadow
  split
  · exact answers_still _
  · split
    · exact answers_still _
    next held _ _ made => exact answers_done (.shadow k _ _ held (edits _ _ made))

/-- COMMIT HARNESS (R134–R136). -/
theorem commitHarness_answers (k : Link) : Answers s (commitHarness k s) := by
  unfold commitHarness
  split
  · exact answers_still _
  next held =>
    split
    · exact answers_still _
    · split
      · exact answers_still _
      · split
        · exact answers_still _
        next valid => exact answers_done (.commit k _ held valid)

/-- DISCARD HARNESS (R138). -/
theorem discardHarness_answers (k : Link) : Answers s (discardHarness k s) := by
  unfold discardHarness
  split
  · exact answers_done (.freeClaim _)
  · exact answers_still _

/-- BREAK CLAIM (R139). -/
theorem breakClaim_answers : Answers s (done (breakClaim s)) := by
  unfold breakClaim
  split
  · exact answers_done (.freeClaim _)
  · exact answers_still _

/-- A command that moves the position, after the checks of R42. -/
theorem whenMovable_answers {own : State → State × Reply} (rule : s.Movable → Answers s (own s)) :
    Answers s (whenMovable own s) := by
  unfold whenMovable
  split
  · exact answers_still _
  next passed => exact rule (moveRefusal_eq_none_iff.mp passed)

/-- STEP BACK and STEP FORWARD wait for a re-form (R43). -/
theorem unlessReforming_answers {own : State → State} (taken : Effect s (own s)) :
    Answers s (unlessReforming own s) := by
  unfold unlessReforming
  split
  · exact answers_still _
  · exact answers_done taken

/-- SET POSITION (R44). -/
theorem movePosition_answers (line step rep : Nat) (rest : s.Movable) : Answers s (movePosition line step rep s) := by
  unfold movePosition
  split
  · exact answers_still _
  next at_ =>
    split
    · exact answers_still _
    next below =>
      split
      · exact answers_still _
      next within =>
        exact answers_done (.setPosition _ line step rep rest at_ ⟨Nat.lt_of_not_le below, Nat.lt_of_not_le within⟩)

/-- SWAP NOW (R45). -/
theorem swapNow_answers (rest : s.Movable) : Answers s (swapNow s) := by
  unfold swapNow
  split
  · exact answers_still _
  next at_ =>
    dsimp only
    split
    · exact answers_still _
    next waits =>
      split
      · exact answers_still _
      next narrow =>
        refine answers_done (.swapNow _ rest at_ ?_ ?_)
        · exact (Decidable.not_and_iff_or_not.mp waits).imp Decidable.not_not.mp Decidable.not_not.mp
        · exact Option.isNone_iff_eq_none.mpr narrow

/-- RESYNC (R178). -/
theorem resync_answers : Answers s (resync s) := by
  unfold resync
  split
  · exact answers_still _
  · exact answers_still _
  next unsynchronised =>
    split
    · exact answers_done (.resync unsynchronised)
    · exact answers_still _

/-- FEEDER OUT and FEEDER IN (R86). -/
theorem withFeeder_answers (n : Nat) {own : Fin 8 → State → State} (rule : ∀ f, Effect s (own f s)) :
    Answers s (withFeeder n own s) := by
  unfold withFeeder
  split
  · exact answers_still _
  · exact answers_done (rule _)

/-- SET TIMING (R14–R16). -/
theorem setTiming_answers (p : List Byte) : Answers s (setTiming (timingOf p) s) := by
  unfold setTiming
  split
  · exact answers_still _
  · split
    · exact answers_still _
    next valid => exact answers_done (.timing p valid)

/-- SET DRIVE (R121, R123). -/
theorem setDrive_answers (p : List Byte) : Answers s (setDrive p s) := by
  unfold setDrive
  split
  · exact answers_still _
  · exact answers_done (.drive _)

/-- SET FLOAT GUARD (R73). -/
theorem setFloatGuard_answers (mode up down : Nat) : Answers s (setFloatGuard mode up down s) := by
  unfold setFloatGuard
  split
  · exact answers_still _
  · exact answers_done (.floatGuard _ up down)

/-- A command that names a bank (spec/08). -/
theorem withBank_answers (p : List Byte) {own : BankId → State → State × Reply} (rule : ∀ b, Answers s (own b s)) :
    Answers s (withBank p own s) := by
  unfold withBank
  split
  · exact answers_still _
  · exact rule _

/-- OPEN ARTICLE (R147). -/
theorem openArticle_answers (p : List Byte) (b : BankId) : Answers s (openArticle p b s) := by
  unfold openArticle
  dsimp only
  split
  · exact answers_still _
  next passed =>
    split
    · exact answers_still _
    · split
      · exact answers_still _
      next height =>
        split
        · exact answers_still _
        · refine answers_done (.openBank b _ _ _ ?_ (by omega))
          exact Classical.not_not.mp fun blocked => passed (opening_blocked_iff.mpr blocked)

/-- A bank that is none of those REOPEN and DISCARD BANK refuse (R148, R154). -/
theorem closed_of_not_refused {b : BankId} (notEmpty : (s.bank b).state ≠ .empty)
    (notLoaded : (s.bank b).state.beingLoaded = false) (notWeaving : (s.bank b).state ≠ .weaving)
    (notPending : ¬ ((s.bank b).state == .armed && s.swapPending) = true) :
    (s.bank b).state = .ready ∨ (s.bank b).state = .retired ∨
      ((s.bank b).state = .armed ∧ s.swapPending = false) := by
  cases h : (s.bank b).state <;> simp_all [BankState.beingLoaded]

/-- REOPEN (R148). -/
theorem reopenBank_answers (b : BankId) : Answers s (reopenBank b s) := by
  unfold reopenBank
  dsimp only
  split
  · exact answers_still _
  next passed =>
    split
    · exact answers_still _
    next notPending =>
      simp only [Bool.or_eq_true, beq_iff_eq, not_or, Bool.not_eq_true] at passed
      obtain ⟨⟨⟨notEmpty, notLoaded⟩, notWeaving⟩, free⟩ := passed
      exact answers_done (.reopen b (closed_of_not_refused notEmpty notLoaded notWeaving notPending) free)

/-- DEFINE SCHEME, DEFINE WEAVE and DEFINE FEEDERS (R155). -/
theorem editRecord_answers (b : BankId) (edit : Article → Except FieldFailure Article)
    (edits : ∀ a a', edit a = .ok a' → EditsArticle a a') : Answers s (editRecord b edit s) := by
  unfold editRecord
  split
  next opened =>
    split
    · exact answers_still _
    next made => exact answers_done (.define b _ opened (edits _ _ made))
  · exact answers_still _

/-- WRITE LINE (R159). -/
theorem writeLine_answers (p : List Byte) (b : BankId) : Answers s (writeLine p b s) := by
  unfold writeLine
  dsimp only
  split
  · exact answers_still _
  next opened =>
    split
    · exact answers_still _
    · split
      · exact answers_still _
      · split
        · exact answers_still _
        · split
          · exact answers_still _
          next room =>
            split
            · exact answers_still _
            · exact answers_done (.queueLine _ (Decidable.not_not.mp opened) room)

/-- CLOSE ARTICLE (R149). -/
theorem closeArticle_answers (b : BankId) : Answers s (closeArticle b s) := by
  unfold closeArticle
  dsimp only
  split
  · exact answers_still _
  next opened =>
    split
    next drained =>
      exact .inr ⟨.closeNow b (Decidable.not_not.mp opened) (by simpa using drained), rfl⟩
    next waits =>
      exact .inr ⟨.closeWaits b (Decidable.not_not.mp opened) (by simpa using waits), rfl⟩

/-- ARM (R151, R152). -/
theorem armBank_answers (b : BankId) : Answers s (armBank b s) := by
  unfold armBank
  split
  · exact answers_still _
  next ready =>
    split
    next beside => exact answers_done (.arm b (Decidable.not_not.mp ready) beside)
    next alone =>
      split
      · exact answers_still _
      next narrow =>
        exact answers_done (.install b (Decidable.not_not.mp ready) alone (Option.isNone_iff_eq_none.mpr narrow))

/-- DISARM (R153). -/
theorem disarmBank_answers (b : BankId) : Answers s (disarmBank b s) := by
  unfold disarmBank
  split
  · exact answers_still _
  next armed =>
    split
    · exact answers_still _
    next free => exact answers_done (.disarm b (Decidable.not_not.mp armed) (Bool.eq_false_iff.mpr free))

/-- DISCARD BANK (R154). -/
theorem discardBank_answers (b : BankId) : Answers s (discardBank b s) := by
  unfold discardBank
  dsimp only
  split
  · exact answers_still _
  next notWeaving =>
    split
    · exact answers_still _
    next free =>
      split
      · exact answers_still _
      next notEmpty =>
        simp only [Bool.or_eq_true, beq_iff_eq, not_or] at free notWeaving notEmpty
        obtain ⟨notClosing, notPending⟩ := free
        split
        next opened => exact answers_done (.discardOpen b (by simpa using opened))
        next notOpened =>
          refine answers_done (.discardClosed b (closed_of_not_refused notEmpty ?_ notWeaving notPending))
          exact Bool.eq_false_iff.mpr fun loaded =>
            ((beingLoaded_iff _).mp loaded).elim (by simpa using notOpened) notClosing

/-- READ LINE (R164). -/
theorem readLine_answers (p : List Byte) (b : BankId) : Answers s (readLine p b s) := by
  unfold readLine
  dsimp only
  split
  · exact answers_still _
  · split
    · exact answers_still _
    · split
      · exact answers_still _
      next free =>
        split
        · exact answers_still _
        · split
          · exact answers_still _
          · exact .inr ⟨.readLine _ (Bool.eq_false_iff.mpr free), rfl⟩

end Rules

/-! ## The rows -/

section Rows

variable {s t : State}

/-- Every row of a command is one transaction, and its own rule leaves the state or has an effect and says so. -/
theorem command_row {i : Instr} {o : Offer} {lo hi : Nat} (offered : commandOffer i = some (o, lo, hi)) :
    ∃ k code own, i.codeOf = some (k, code) ∧ (∀ s, exec i s = .next (transact k code o lo hi i.params own s)) ∧
      ∀ s, Answers s (own s) := by
  cases i <;> cases offered <;> refine ⟨_, _, _, rfl, fun _ => rfl, fun s => ?_⟩
  case status => exact answers_done .drawFree
  case readEvents | readHistory | readFault => exact answers_still _
  case clearEvents => exact answers_done (.clearEvents _ _)
  case setEnables => exact answers_done (.setEnables _ _)
  case note => exact sendNote_answers _ _
  case readNote => exact readNote_answers _
  case claimHarness => exact claimHarness_answers _
  case writeChain => exact editShadow_answers _ _ fun _ _ made => ⟨_, .inl made⟩
  case writeSection => exact editShadow_answers _ _ fun _ _ made => ⟨_, .inr (.inl made)⟩
  case writeSelvage => exact editShadow_answers _ _ fun _ _ made => ⟨_, .inr (.inr made)⟩
  case commitHarness => exact commitHarness_answers _
  case discardHarness => exact discardHarness_answers _
  case readHarness => exact .inl (readHarness_state _ _)
  case readArticle => exact .inl (readArticle_state _)
  case clearFault => exact answers_done .clearFault
  case stepBack => exact whenMovable_answers fun rest => unlessReforming_answers (.stepBack _ rest)
  case stepForward => exact whenMovable_answers fun rest => unlessReforming_answers (.stepForward _ rest)
  case setPosition => exact whenMovable_answers (movePosition_answers _ _ _)
  case setPickCount => exact answers_done (.pickCount _)
  case setPieceTarget => exact answers_done (.pieceTarget _)
  case swapNow => exact whenMovable_answers swapNow_answers
  case unload => exact whenMovable_answers fun rest => answers_done (.unload rest)
  case resync => exact resync_answers
  case feederOut => exact withFeeder_answers _ .feederOut
  case feederIn => exact withFeeder_answers _ .feederIn
  case levelOn | levelOff => exact answers_done (.level _)
  case setTiming => exact setTiming_answers _
  case setDrive => exact setDrive_answers _
  case setFloatGuard => exact setFloatGuard_answers _ _ _
  case setMargin => exact answers_done (.margin _)
  case lockKeep | unlock => exact answers_done (.keep _)
  case lockFixed => exact answers_done .fixed
  case breakClaim => exact breakClaim_answers
  case readFrame => exact .inl (readFrame_state _)
  case openArticle => exact withBank_answers _ (openArticle_answers _)
  case reopen => exact withBank_answers _ reopenBank_answers
  case defineScheme => exact withBank_answers _ fun b => editRecord_answers b _ fun _ _ made => ⟨_, .inl made⟩
  case defineWeave => exact withBank_answers _ fun b => editRecord_answers b _ fun _ _ made => ⟨_, .inr (.inl made)⟩
  case defineFeeders => exact withBank_answers _ fun b => editRecord_answers b _ fun _ _ made => ⟨_, .inr (.inr made)⟩
  case writeLine => exact withBank_answers _ (writeLine_answers _)
  case closeArticle => exact withBank_answers _ closeArticle_answers
  case arm => exact withBank_answers _ armBank_answers
  case disarm => exact withBank_answers _ disarmBank_answers
  case discardBank => exact withBank_answers _ discardBank_answers
  case readLine => exact withBank_answers _ (readLine_answers _)
  case fetchLine => exact .inl fetchLine_state

/-- What a link does to answer, or to stay silent: nothing else is written than its interface (R182, R186). -/
inductive Closes (s : State) : State → Prop
  | silent : Closes s s
  | answer (k : Link) (code : Byte) (r : Reply) : Closes s (answer k code r s)
  | overLong (k : Link) (code : Byte) (n : Nat) : Closes s (refuseOverLong k code n s)

/-- What a row that is no burst of the load queue does: an effect, then the answer of the link. -/
def Row (s t : State) : Prop := ∃ x, Effect s x ∧ Closes x t

/-- A row of no answer. -/
theorem row_of_effect {x : State} (e : Effect s x) (answers : (.next x : Host.Outcome State Fault Refusal) = .next t) :
    Row s t := by
  cases answers
  exact ⟨_, e, .silent⟩

/-- A row of no effect. -/
theorem row_of_closes {x : State} (c : Closes s x) (answers : (.next x : Host.Outcome State Fault Refusal) = .next t) :
    Row s t := by
  cases answers
  exact ⟨_, .nothing, c⟩

/-- A row that reaches no block while a reset is applied (R198). -/
theorem effect_unlessReset {x y : State} (ex : Effect s x) (ey : Effect s y) :
    Effect s (if s.inReset then x else y) := by
  split
  · exact ex
  · exact ey

/-- A transaction is a row. -/
theorem row_transact {k : Link} {code : Byte} {o : Offer} {lo hi : Nat} {p : List Byte} {own : State → State × Reply}
    (rule : Answers s (own s)) : Row s (transact k code o lo hi p own s) := by
  rcases transact_cases k code o lo hi p own s with ⟨-, e⟩ | ⟨-, -, e⟩ | ⟨-, _, _, e⟩ | ⟨-, -, -, -, e⟩ <;> rw [e]
  · exact ⟨s, .nothing, .silent⟩
  · exact ⟨s, .nothing, .overLong ..⟩
  · exact ⟨s, .nothing, .answer ..⟩
  · rcases rule with same | ⟨effect, -⟩
    · exact ⟨s, .nothing, by rw [same]; exact .answer ..⟩
    · exact ⟨_, effect, .answer ..⟩

/-- An unknown code and an over-long length reach their link alone (R185, R186). -/
theorem closes_transactUnknown (k : Link) (code : Byte) (p : List Byte) : Closes s (transactUnknown k code p s) := by
  unfold transactUnknown
  split
  · exact .silent
  · split
    · exact .overLong ..
    · exact .answer ..

/-- A reading burst completes with its data or is dropped (R163). -/
theorem row_finishRead {b : Burst} {take : List Byte → State → State} (e : ∀ data, Effect s (take data s))
    (answers : finishRead b take s = .next t) : Row s t := by
  unfold finishRead at answers
  split at answers
  · exact row_of_effect .droppedRead answers
  · split at answers
    · exact row_of_effect (e _) answers
    · cases answers

/-- Everything an event can do: a completed burst of the load queue, or an effect and an answer. -/
theorem event_cases (i : Instr) (offered : commandOffer i = none) (answers : exec i s = .next t) :
    (i = .loadQueueBurstDone ∧ ∃ b, s.burstOf .queue = some b ∧ t = finishQueueBurst b s) ∨ Row s t := by
  cases i <;> cases offered
  case encoderCount => exact .inr (row_of_effect (effect_unlessReset .nothing (.count _)) answers)
  case illegalStep => exact .inr (row_of_effect (effect_unlessReset .nothing .illegal) answers)
  case index => exact .inr (row_of_effect (effect_unlessReset .nothing .index) answers)
  case stillTimerExpiry =>
    refine .inr (row_of_effect ?_ answers)
    split
    · exact .stillTimer
    · exact .nothing
  case standstillHold =>
    refine .inr (row_of_effect ?_ answers)
    split
    · exact .firstStandstill
    · exact .nothing
  case standstillRelease =>
    refine .inr (row_of_effect ?_ answers)
    split
    · exact .secondStandstill
    · exact .nothing
  case releaseInputChange =>
    exact .inr (row_of_effect (effect_unlessReset (.trackInput _ _) (.setInput _ _)) answers)
  case forwardFrameComplete => exact .inr (row_of_effect .forwardComplete answers)
  case reformCompletion => exact .inr (row_of_effect .reformComplete answers)
  case frameReadBurstDone =>
    change execFrameReadBurstDone s = .next t at answers
    unfold execFrameReadBurstDone at answers
    split at answers
    · exact .inr (row_finishRead .frameData answers)
    · exact .inr (row_of_effect .nothing answers)
  case loadQueueBurstDone =>
    change execLoadQueueBurstDone s = .next t at answers
    unfold execLoadQueueBurstDone at answers
    split at answers
    next held =>
      cases answers
      exact .inl ⟨rfl, _, held, rfl⟩
    · exact .inr (row_of_effect .nothing answers)
  case readbackBurstDone =>
    change execReadbackBurstDone s = .next t at answers
    unfold execReadbackBurstDone at answers
    split at answers
    · exact .inr (row_finishRead .readbackData answers)
    · exact .inr (row_of_effect .nothing answers)
  case unknownCommand k code p =>
    change execUnknownCommand k code p s = .next t at answers
    unfold execUnknownCommand at answers
    split at answers
    · cases answers
    · exact .inr (row_of_closes (closes_transactUnknown ..) answers)
  case overLongLength k code n =>
    change execOverLongLength k code n s = .next t at answers
    unfold execOverLongLength at answers
    split at answers
    · cases answers
    · refine .inr (row_of_closes ?_ answers)
      split
      · exact .overLong ..
      · exact .silent
  case selectReleasedEarly | selectReleased => exact .inr (row_of_effect (.release _) answers)
  case resetPin => exact .inr (row_of_effect (.resetPin _ _) answers)
  case powerOnReset => exact .inr (row_of_effect (.powerOn _ _) answers)
  case resetEnd =>
    refine .inr (row_of_effect ?_ answers)
    split
    · exact .resetEnd ..
    · exact .nothing

/-- Everything a row can do: a completed burst of the load queue, or an effect and an answer. -/
theorem exec_cases (i : Instr) (answers : exec i s = .next t) :
    (i = .loadQueueBurstDone ∧ ∃ b, s.burstOf .queue = some b ∧ t = finishQueueBurst b s) ∨ Row s t := by
  cases offered : commandOffer i with
  | some offer =>
    obtain ⟨o, lo, hi⟩ := offer
    obtain ⟨k, code, own, -, row, rule⟩ := command_row offered
    rw [row] at answers
    cases answers
    exact .inr (row_transact (rule s))
  | none => exact event_cases i offered answers

end Rows

/-! ## The lines of the links and the steps -/

section Steps

variable {s t : State}

/-- A byte received never presents a burst of the load queue: the rows of a transaction are commands, over-long lengths
and early releases (R182). -/
theorem presentedRow_ne_loadQueue (k : Link) (bytes : List Byte) : presentedRow k bytes ≠ some .loadQueueBurstDone := by
  have command (code : Byte) (p : List Byte) : commandRow k code p ≠ .loadQueueBurstDone := by
    unfold commandRow
    split <;> nofun
  intro presented
  unfold presentedRow at presented
  split at presented
  · dsimp only at presented
    split at presented
    · simp only [transactionRow, Option.some.injEq] at presented
      split at presented
      · cases presented
      · split at presented
        · cases presented
        · exact command _ _ presented
    · cases presented
  · cases presented

/-- A property that holds of the state whatever waits and whatever the links gather, and that rows and time keep. -/
structure Kept (P : State → Prop) : Prop where
  queues : ∀ (s : State) (c : List Instr) (w : List Wire), P s → P { s with pending := c, wires := w }
  wire : ∀ (s : State) (k : Link) (b : Byte),
    ∀ l ∈ [(s.link k).select, (s.link k).passByte, (s.link k).receive b], P s → P (s.setLink k l)
  closes : ∀ s t, Closes s t → P s → P t
  effect : ∀ s t, Effect s t → P s → P t
  tick : ∀ s, P s → P (tick s)

/-- What the rows keep, an effect and an answer keep. -/
theorem Kept.row {P : State → Prop} (K : Kept P) (h : P s) (row : Row s t) : P t := by
  obtain ⟨x, effect, closes⟩ := row
  exact K.closes _ _ closes (K.effect _ _ effect h)

/-- What the lines of a link bring: a change of the link, or a row that is no burst of the load queue. -/
theorem Kept.line {P : State → Prop} (K : Kept P) (w : Wire) (h : P s) (taken : takeWire w s = .next t) : P t := by
  have linked (k : Link) (b : Byte) {l : LinkState}
      (moved : l ∈ [(s.link k).select, (s.link k).passByte, (s.link k).receive b]) : P (s.setLink k l) :=
    K.wire s k b l moved h
  have released (k : Link) (row : exec (.selectReleasedEarly k) s = .next t ∨ exec (.selectReleased k) s = .next t) :
      P t := by
    rcases row with row | row <;> exact K.row h (row_of_effect (.release k) row)
  cases w with
  | select k =>
    simp only [takeWire, assertSelect, Host.Outcome.next.injEq] at taken
    split at taken <;> subst taken
    · exact h
    · exact linked k 0#8 (by simp)
  | clock k b =>
    simp only [takeWire, clockByte] at taken
    split at taken
    · cases taken
      exact h
    · split at taken
      · split at taken
        next presented =>
          rcases exec_cases _ taken with ⟨e, -⟩ | row
          · exact absurd (e ▸ presented) (presentedRow_ne_loadQueue _ _)
          · exact K.row (linked k b (by simp)) row
        · cases taken
          exact linked k b (by simp)
      · cases taken
        exact linked k b (by simp)
  | release k =>
    simp only [takeWire, releaseSelect] at taken
    split at taken
    · exact released k (.inl taken)
    · exact released k (.inr taken)

/-- With no row waiting a step keeps it. -/
theorem Kept.idle {P : State → Prop} (K : Kept P) (h : P s) (waits : s.pending = []) (stepped : step s = .next t) :
    P t := by
  rcases step_cases s with ⟨c, rest, e, -⟩ | ⟨w, rest, -, -, e⟩ | ⟨-, -, e⟩
  · cases waits.symm.trans e
  · exact K.line w (K.queues s s.pending rest h) (e ▸ stepped)
  · rw [e] at stepped
    cases stepped
    exact K.tick s h

/-- Every step keeps what a completed burst of the load queue keeps too. -/
theorem Kept.step {P : State → Prop} (K : Kept P)
    (burst : ∀ s b, s.burstOf .queue = some b → P s → P (finishQueueBurst b s)) (h : P s)
    (stepped : step s = .next t) : P t := by
  rcases step_cases s with ⟨c, rest, -, e⟩ | ⟨w, rest, waits, -, -⟩ | ⟨waits, -, -⟩
  · rw [e] at stepped
    have kept := K.queues s rest s.wires h
    rcases exec_cases c stepped with ⟨-, b, held, rfl⟩ | row
    · exact burst _ b held kept
    · exact K.row kept row
  · exact K.idle h waits stepped
  · exact K.idle h waits stepped

end Steps

end Sys2Proof.Proofs
end

section
/-! PROOF. Pattern memory and the memory port at every step (O52). -/

namespace Sys2Proof.Proofs

open Sys2Proof.Machine

/-! ## What the larger operations keep -/

section Keeps

variable (s : State)

/-- The data of a readback burst moves the buffer and LINE READY alone (R164). -/
@[simp] theorem takeReadbackData_keeps (data : List Byte) :
    (takeReadbackData data s).shaft = s.shaft ∧ (takeReadbackData data s).pick = s.pick ∧
      (takeReadbackData data s).frame = s.frame ∧ (takeReadbackData data s).harness = s.harness ∧
      (takeReadbackData data s).loom = s.loom ∧ (takeReadbackData data s).store.bankA = s.store.bankA ∧
      (takeReadbackData data s).store.bankB = s.store.bankB ∧ (takeReadbackData data s).store.queue = s.store.queue ∧
      (takeReadbackData data s).store.port = s.store.port ∧ (takeReadbackData data s).store.memory = s.store.memory := by
  unfold takeReadbackData
  split
  · dsimp only
    split <;> simp
  · simp

/-- The closing of a bank moves the bank and CLOSE DONE alone (R150). -/
@[simp] theorem finishClose_keeps (b : BankId) :
    (finishClose b s).shaft = s.shaft ∧ (finishClose b s).pick = s.pick ∧ (finishClose b s).frame = s.frame ∧
      (finishClose b s).harness = s.harness ∧ (finishClose b s).loom = s.loom ∧
      (finishClose b s).store.queue = s.store.queue ∧ (finishClose b s).store.readback = s.store.readback ∧
      (finishClose b s).store.port = s.store.port ∧ (finishClose b s).store.memory = s.store.memory := by
  simp [finishClose]

/-- What a commit writes before its re-form: the live table, the claim, the committed state, the latched selection and
the drivers (R136, R117). -/
def takeTable (t : HarnessTable) (s : State) : State :=
  followDrivers
    { s with
      harness := { s.harness with live := t, claim := none }
      frame := { s.frame with
        committed := [], latched := if s.weaves then relayout t s.frame.latched else Selection.empty } }

/-- A commit takes the table, re-forms where an article weaves, and raises CLAIM FREED on the other link (R136). -/
theorem commitTable_eq (k : Link) (t : HarnessTable) :
    commitTable k t s =
      raise (otherLink k) .claimFreed (if s.weaves then startReform .reform (takeTable t s) else takeTable t s) := rfl

/-- The taking of a table leaves every block but the harness unit and, of the frame builder, all but two fields. -/
@[simp] theorem takeTable_keeps (t : HarnessTable) :
    (takeTable t s).shaft = s.shaft ∧ (takeTable t s).pick = s.pick ∧ (takeTable t s).store = s.store ∧
      (takeTable t s).loom = s.loom ∧ (takeTable t s).design = s.design ∧ (takeTable t s).inReset = s.inReset ∧
      (takeTable t s).freeDraws = s.freeDraws ∧ (takeTable t s).pending = s.pending ∧
      (takeTable t s).wires = s.wires ∧ (takeTable t s).frame.slot = s.frame.slot ∧
      (takeTable t s).frame.owed = s.frame.owed ∧ (takeTable t s).frame.guard = s.frame.guard ∧
      (takeTable t s).frame.committed = [] ∧ (takeTable t s).harness.live = t ∧
      (takeTable t s).harness.claim = none := by
  simp [takeTable]

/-- LEVEL sets its flag and re-forms where an article weaves (R68). -/
theorem setLevel_eq (on : Bool) :
    setLevel on s =
      if s.weaves then startReform .reform { s with frame.level := on } else { s with frame.level := on } := rfl

/-- UNLOAD writes no more of the store than the banks and the port, and no more of the links than DISARMED (R46). -/
@[simp] theorem unloadArticle_keeps :
    (unloadArticle s).shaft = s.shaft ∧ (unloadArticle s).pick.engine = .noArticle ∧
      (unloadArticle s).pick.position = none ∧ (unloadArticle s).frame.slot = .empty ∧
      (unloadArticle s).frame.owed = none ∧ (unloadArticle s).store.bankA = s.store.bankA.unloaded ∧
      (unloadArticle s).store.bankB = s.store.bankB.unloaded ∧ (unloadArticle s).store.queue = s.store.queue ∧
      (unloadArticle s).store.readback = s.store.readback ∧ (unloadArticle s).store.memory = s.store.memory ∧
      (unloadArticle s).store.port = (discard s).store.port := by
  simp [unloadArticle, standstillOff, weftOff, followStop]

end Keeps

/-! ## Pattern memory (R145, R163) -/

section Memory

variable {s t : State}

/-- No effect of a row but a burst of the load queue writes pattern memory (R145, R163; a reset by log 12). -/
theorem memory_of_effect (e : Effect s t) : t.store.memory = s.store.memory := by
  cases e with
  | illegal => unfold illegalStep; dsimp only; split <;> simp
  | setInput i b => cases i <;> simp only [setReleaseInput] <;> split <;> simp
  | trackInput i b => cases i <;> rfl
  | commit k t => rw [commitTable_eq]; split <;> simp
  | level on => rw [setLevel_eq]; split <;> simp
  | resetPin ra rb => unfold keepFixed; split <;> rfl
  | _ =>
    simp [finishFrameBurst, finishReadbackBurst, stillExpiry, firstExpiry, secondExpiry, drawFree, clearEvents,
      setEnables, storeNote, setShadow, dropClaim, clearFault, stepBack, stepForward, finishMove, resyncShaft,
      bringFeederIn, applyTiming, applyDrive, install, afterReset, endReset]

/-- What closes a row leaves every block. -/
theorem closes_store (c : Closes s t) : t.store = s.store ∧ t.frame = s.frame := by
  cases c <;> simp

/-- Time leaves the pattern store and the frame builder. -/
theorem tick_store : (tick s).store = s.store ∧ (tick s).frame = s.frame := by
  have still (x : State) : (tickStill x).store = x.store ∧ (tickStill x).frame = x.frame := by
    unfold tickStill
    split
    · exact ⟨rfl, rfl⟩
    · split <;> exact ⟨rfl, rfl⟩
  have standstill (x : State) : (tickStandstill x).store = x.store ∧ (tickStandstill x).frame = x.frame := by
    unfold tickStandstill
    split
    · exact ⟨rfl, rfl⟩
    · exact ⟨rfl, rfl⟩
    · split <;> simp [firstExpiry]
    · split <;> simp [secondExpiry]
  unfold tick
  split
  · exact ⟨rfl, rfl⟩
  · simp [still, standstill]

/-- Rows but a burst of the load queue, and time, keep pattern memory. -/
theorem kept_memory (m : List Host.Cell) : Kept fun t => t.store.memory = m where
  queues _ _ _ h := h
  wire s k b l _ h := by simpa using h
  closes s t c h := by rw [(closes_store c).1, h]
  effect s t e h := by rw [memory_of_effect e, h]
  tick s h := by rw [tick_store.1, h]

/-- A completed burst of the load queue writes its bytes, and no more (R161). -/
theorem finishQueueBurst_memory (b : Burst) :
    (finishQueueBurst b s).store.memory = writeBytes s.store.memory b.address b.data := by
  have entry (e : QueueEntry) (rest : List QueueEntry) (x : State) :
      (finishEntry e rest x).store.memory = x.store.memory := by
    unfold finishEntry
    dsimp only
    split <;> simp
  have advance (x : State) : (advanceQueue x).store.memory = x.store.memory := by
    unfold advanceQueue
    split
    · rfl
    · split
      · rfl
      · exact entry ..
  unfold finishQueueBurst
  dsimp only
  split <;> simp [advance]

end Memory

/-! ## The memory port (R163) -/

section Port

variable {s t u : State}

/-- The burst in progress is the one its requester waits for, unless its work has been abandoned (R163). -/
def PortLive (s : State) : Prop :=
  ∀ b, s.store.port = some b → b.dropped = false → s.waiting b.requester = some b

/-- An operation keeps the law of the port, and of a port that may be idle while a request waits. -/
def Ported (s t : State) : Prop := (PortLive s → PortLive t) ∧ (s.PortLaw → t.PortLaw)

/-- The requests and the port are as before. -/
def SameRequests (s t : State) : Prop := (∀ r, t.waiting r = s.waiting r) ∧ t.store.port = s.store.port

theorem Ported.refl (s : State) : Ported s s := ⟨id, id⟩

theorem Ported.trans (h : Ported s t) (h' : Ported t u) : Ported s u := ⟨h'.1 ∘ h.1, h'.2 ∘ h.2⟩

/-- The same requests and the same port keep the law. -/
theorem SameRequests.ported (h : SameRequests s t) : Ported s t := by
  obtain ⟨waiting, port⟩ := h
  have due : t.due = s.due := by simp only [State.due, waiting]
  have live : PortLive s → PortLive t := fun live b used kept => by
    rw [waiting]
    exact live b (port ▸ used) kept
  exact ⟨live, fun law => ⟨fun idle => by rw [due]; exact law.1 (port ▸ idle), live law.2⟩⟩

/-- Requests rest on the slot, the load queue and the readback buffer. -/
theorem sameRequests_of (slot : t.frame.slot = s.frame.slot) (queue : t.store.queue = s.store.queue)
    (readback : t.store.readback = s.store.readback) (port : t.store.port = s.store.port) : SameRequests s t := by
  refine ⟨fun r => ?_, port⟩
  cases r <;> simp only [State.waiting, slot, queue, readback]

/-- A request names its requester. -/
theorem requester_of_waiting {r : Requester} {b : Burst} (held : s.waiting r = some b) : b.requester = r := by
  cases r <;> simp only [State.waiting] at held <;> split at held <;> cases held <;> rfl

/-- A burst is due only where its requester waits for it (R163). -/
theorem waiting_of_due {b : Burst} (due : s.due = some b) : s.waiting b.requester = some b := by
  rw [State.due] at due
  split at due
  next held =>
    cases due
    exact requester_of_waiting held ▸ held
  next held =>
    cases due
    exact requester_of_waiting held ▸ held
  · exact requester_of_waiting due ▸ due

/-- Nothing is due exactly while nobody waits (R163). -/
theorem due_eq_none_iff : s.due = none ↔ ∀ r, s.waiting r = none := by
  rw [State.due]
  constructor
  · intro due r
    split at due
    · cases due
    · cases due
    next frame queue => cases r <;> assumption
  · intro none
    simp [none]

/-- The arbiter's grant restores the law (R163). -/
theorem portLaw_grant (live : PortLive s) : (grant s).PortLaw := by
  have waiting (r : Requester) : (grant s).waiting r = s.waiting r := by cases r <;> simp [State.waiting]
  cases held : s.store.port with
  | some x =>
    have used := grant_of_used s held
    refine ⟨fun idle => (by cases used.symm.trans idle), fun b busy kept => ?_⟩
    cases used.symm.trans busy
    rw [waiting]
    exact live x held kept
  | none =>
    have granted := grant_of_free s held
    exact ⟨fun idle => granted.symm.trans idle, fun b busy _ => waiting_of_due (granted.symm.trans busy)⟩

/-- Requests that are only added keep the law, once the arbiter has granted (R163). -/
theorem ported_grant (added : ∀ r b, s.waiting r = some b → t.waiting r = some b)
    (port : t.store.port = s.store.port) : Ported s (grant t) := by
  have live (h : PortLive s) : PortLive t := fun b used kept => added _ _ (h b (port ▸ used) kept)
  exact ⟨fun h => (portLaw_grant (live h)).2, fun h => portLaw_grant (live h.2)⟩

/-- The abandonment of a requester's work: its request is gone and its burst dropped (R163). -/
theorem ported_drop {r : Requester} (gone : t.waiting r = none) (others : ∀ x, x ≠ r → t.waiting x = s.waiting x)
    (port : t.store.port = s.store.port.map (Burst.abandonFor r)) : Ported s t := by
  have live (h : PortLive s) : PortLive t := by
    intro b used kept
    rw [port] at used
    obtain ⟨x, held, rfl⟩ := Option.map_eq_some_iff.mp used
    unfold Burst.abandonFor at kept ⊢
    split at kept
    · cases kept
    next other => rw [if_neg other, others _ other]; exact h x held kept
  refine ⟨live, fun law => ⟨fun idle => due_eq_none_iff.mpr fun x => ?_, live law.2⟩⟩
  rw [port, Option.map_eq_none_iff] at idle
  by_cases same : x = r
  · exact same ▸ gone
  · rw [others x same]
    exact due_eq_none_iff.mp (law.1 idle) x

/-- An idle port is live. -/
theorem portLive_of_idle (idle : s.store.port = none) : PortLive s := fun b used _ => by cases idle.symm.trans used

end Port

/-! ## The port under each operation -/

section Ported

variable (s : State)

/-- The discard of the pending frame (R108). -/
theorem ported_discard : Ported s (discard s) := by
  refine ported_drop (r := .frame) (by simp [State.waiting]) (fun x other => ?_) rfl
  cases x with
  | frame => exact absurd rfl other
  | queue => simp [State.waiting]
  | readback => simp [State.waiting]

/-- An assembly start finds no request of the frame builder (R109). -/
theorem ported_beginFrame (kind : FrameKind) (p : Position) (swap : Bool) (n : Nat) (free : s.waiting .frame = none) :
    Ported s (beginFrame kind p swap n s) := by
  unfold beginFrame
  dsimp only
  split
  · refine (SameRequests.ported ⟨fun r => ?_, by simp⟩)
    cases r with
    | frame => rw [free]; simp [State.waiting, computeFrame]
    | queue => simp [State.waiting]
    | readback => simp [State.waiting]
  · refine ported_grant (fun r b held => ?_) (by simp)
    cases r with
    | frame => cases free.symm.trans held
    | queue => simpa [State.waiting] using held
    | readback => simpa [State.waiting] using held

/-- A forward frame that becomes READY waits for nothing before and after (R112). -/
theorem ported_completeForward : Ported s (completeForward s) := by
  refine SameRequests.ported ⟨fun r => ?_, by simp⟩
  cases r with
  | frame =>
    unfold completeForward
    split
    next held => split <;> simp [State.waiting, held]
    · rfl
  | queue => simp [State.waiting]
  | readback => simp [State.waiting]

/-- A forward frame is started from an EMPTY slot (R104). -/
theorem ported_beginForward (p : Position) (swap : Bool) (free : s.waiting .frame = none) :
    Ported s (beginForward p swap s) := by
  have start := ported_beginFrame s .forward p swap (min (s.pick.counter + 1) maxCount) free
  unfold beginForward
  dsimp only
  split
  · exact start.trans (ported_completeForward _)
  · exact start

theorem ported_startForward : Ported s (startForward s) := by
  unfold startForward
  split
  next ready =>
    have free (x : State) (slot : x.frame.slot = s.frame.slot) : x.waiting .frame = none := by
      have empty := ready.2
      cases held : s.frame.slot <;> simp_all [Slot.isEmpty, State.waiting]
    split
    · exact .refl s
    · split
      · exact ported_beginForward s _ _ (free s rfl)
      · split
        · exact ported_beginForward s _ _ (free s rfl)
        · refine (SameRequests.ported (sameRequests_of ?_ ?_ ?_ ?_)).trans (ported_beginForward _ _ _ (free _ ?_)) <;> simp
        · exact ported_beginForward s _ _ (free s rfl)
  · exact .refl s

/-- The latch of a re-form empties a slot that waits for nothing (R115). -/
theorem ported_completeReform : Ported s (completeReform s) := by
  unfold completeReform
  split
  next d v held =>
    split
    next cause _ =>
      refine (SameRequests.ported ⟨fun r => ?_, by simp⟩).trans (ported_startForward (takeReform d cause s))
      cases r with
      | frame => simp [State.waiting, held, takeReform]
      | queue => simp [State.waiting]
      | readback => simp [State.waiting]
    · exact .refl s
  · exact .refl s

theorem ported_beginReform (cause : Cause) : Ported s (beginReform cause s) := by
  unfold beginReform
  split
  · exact .refl s
  next p _ =>
    have start := (ported_discard s).trans
      (ported_beginFrame (discard s) (.reform cause) p false s.pick.counter (by simp [State.waiting]))
    dsimp only
    split
    · exact start.trans (ported_completeReform _)
    · exact start

theorem ported_startReform (cause : Cause) : Ported s (startReform cause s) := by
  unfold startReform
  split
  · exact ported_beginReform s cause
  · exact (sameRequests_of rfl rfl rfl rfl).ported

theorem ported_startOwed : Ported s (startOwed s) := by
  unfold startOwed
  split
  · exact .refl s
  · refine .trans ?_ (ported_startReform _ _)
    exact (sameRequests_of rfl rfl rfl rfl).ported

/-- A re-form after anything that leaves the requests. -/
theorem ported_reformAfter {x : State} (cause : Cause) (same : SameRequests s x) : Ported s (startReform cause x) :=
  same.ported.trans (ported_startReform x cause)

/-- The latch of a READY frame (R113). -/
theorem ported_takeReady (d : Descriptor) (ready : s.frame.slot = .ready d) : Ported s (takeReady d s) := by
  refine SameRequests.ported ⟨fun r => ?_, by simp⟩
  cases r with
  | frame =>
    have emptied : (takeReady d s).frame.slot = .empty := by
      unfold takeReady
      dsimp only
      split <;> simp
    simp [State.waiting, emptied, ready]
  | queue => simp [State.waiting]
  | readback => simp [State.waiting]

/-- A LATE latch drops the pending frame (R114). -/
theorem ported_takeLate : Ported s (takeLate s) := by
  refine (ported_discard s).trans (SameRequests.ported (sameRequests_of ?_ ?_ ?_ ?_)) <;> simp [takeLate]

theorem ported_latchEngine : Ported s (latchEngine s) := by
  unfold latchEngine
  split
  · split
    next d ready => exact ported_takeReady s d ready
    · exact ported_takeLate s
  · exact .refl s

theorem ported_forwardLatch : Ported s (forwardLatch s) := by
  have tracker : SameRequests s (latchTracker s) := by apply sameRequests_of <;> simp
  have restart (x : State) : SameRequests x (restartStandstill x) := by apply sameRequests_of <;> simp
  exact tracker.ported.trans ((ported_latchEngine _).trans (restart _).ported)

theorem ported_reverseLatch : Ported s (reverseLatch s) := by
  unfold reverseLatch
  dsimp only
  split
  · refine ported_reformAfter s _ (sameRequests_of ?_ ?_ ?_ ?_) <;> simp
  · exact (sameRequests_of rfl rfl rfl rfl).ported

theorem ported_crossMarks : Ported s (crossMarks s) := by
  have start (c : Bool) : Ported s (if c then startForward s else s) := by
    cases c
    · exact .refl s
    · exact ported_startForward s
  have marks (x : State) (w on off : Bool) : Ported x (gateMarks on off (if w then weftSelect x else x)) := by
    refine (sameRequests_of ?_ ?_ ?_ ?_).ported <;> (cases w <;> simp)
  exact (start _).trans (marks _ _ _ _)

theorem ported_shaftCount (dir : Direction) : Ported s (shaftCount dir s) := by
  have count : Ported s (countShaft dir s) := by refine (sameRequests_of ?_ ?_ ?_ ?_).ported <;> simp
  have offset (x : State) (d : Int) : Ported x { x with shaft.offset := d } := (sameRequests_of rfl rfl rfl rfl).ported
  have forward (x : State) : Ported x (countForward x) := by
    unfold countForward
    split
    · exact (offset x 0).trans ((ported_forwardLatch _).trans (ported_crossMarks _))
    · exact (offset x _).trans (ported_crossMarks _)
  have backward (x : State) : Ported x (countBackward x) := by
    unfold countBackward
    dsimp only
    split
    · exact (offset x _).trans (ported_reverseLatch _)
    · exact offset x _
  unfold shaftCount
  dsimp only
  split
  · cases dir
    · exact count.trans (forward _)
    · exact count.trans (backward _)
  · exact count

theorem ported_loseShaft (cause : LossCause) : Ported s (loseShaft cause s) := by
  have entered : SameRequests s
      (weftOff (reportFault .shaftLost cause
        { s with shaft := { s.shaft.cancel with reference := .lost, cause := cause } })) := by
    apply sameRequests_of <;> simp [weftOff]
  unfold loseShaft
  dsimp only
  split
  · exact entered.ported.trans (sameRequests_of (by simp) (by simp) (by simp) (by simp)).ported
  · refine entered.ported.trans ((ported_discard _).trans (sameRequests_of ?_ ?_ ?_ ?_).ported) <;> simp

theorem ported_takeIndex : Ported s (takeIndex s) := by
  unfold takeIndex
  split
  · refine .trans ?_ (ported_startOwed _)
    exact (sameRequests_of rfl rfl rfl rfl).ported
  · dsimp only
    split
    · exact (sameRequests_of rfl rfl rfl rfl).ported
    · exact ported_loseShaft s _
  · exact .refl s

/-- The readback buffer gives up its line (R165). -/
theorem ported_emptyReadback (b : BankId) : Ported s (emptyReadback b s) := by
  unfold emptyReadback
  split
  · refine ported_drop (r := .readback) (by simp [State.waiting]) (fun x other => ?_) rfl
    cases x with
    | frame => simp [State.waiting]
    | queue => rfl
    | readback => exact absurd rfl other
  · exact .refl s

/-- The load queue gives up its entries (R162). -/
theorem ported_dropQueue : Ported s (dropQueue s) := by
  refine ported_drop (r := .queue) (by simp [State.waiting]) (fun x other => ?_) (by simp [dropQueue, dropBurst])
  cases x with
  | frame => simp [State.waiting]
  | queue => exact absurd rfl other
  | readback => simp [State.waiting]

end Ported

/-! ## The port under each row -/

section Rows

variable {s t : State}

/-- A completed burst frees the port, and what follows is granted (R163). -/
theorem portLaw_afterBurst {take : State → State} (idle : ∀ x : State, x.store.port = none → PortLive (take x)) :
    (grant (take (freePort s))).PortLaw :=
  portLaw_grant (idle _ rfl)

/-- A completed burst of the load queue (R161). -/
theorem portLaw_finishQueueBurst (b : Burst) : (finishQueueBurst b s).PortLaw := by
  have advance (x : State) (idle : x.store.port = none) : (advanceQueue x).store.port = none := by
    unfold advanceQueue
    split
    · exact idle
    · split
      · exact idle
      · unfold finishEntry
        dsimp only
        split <;> simpa using idle
  unfold finishQueueBurst
  dsimp only
  refine portLaw_grant (portLive_of_idle ?_)
  split
  · rfl
  · exact advance _ rfl

/-- The data of a frame's burst, on a port that is free (R110, R111). -/
theorem portLive_takeFrameData (data : List Byte) (idle : s.store.port = none) : PortLive (takeFrameData data s) := by
  unfold takeFrameData
  split
  · dsimp only
    split
    · exact portLive_of_idle idle
    · have computed (d : Descriptor) (v : GuardView) (cells : List Byte) : PortLive (computeFrame d v cells s) :=
        portLive_of_idle idle
      split
      · exact ((ported_completeForward _).trans (ported_completeReform _)).1 (computed _ _ _)
      · exact computed _ _ _
  · exact portLive_of_idle idle

/-- Every effect of a row keeps the law of the port. -/
theorem portLaw_of_effect (law : s.PortLaw) (e : Effect s t) : t.PortLaw := by
  have still {x : State} (slot : x.frame.slot = s.frame.slot) (queue : x.store.queue = s.store.queue)
      (readback : x.store.readback = s.store.readback) (port : x.store.port = s.store.port) : x.PortLaw :=
    (sameRequests_of slot queue readback port).ported.2 law
  have idle {x : State} (slot : x.frame.slot = .empty) (queue : x.store.queue = []) (readback : x.store.readback = .empty)
      (port : x.store.port = none) : x.PortLaw :=
    ⟨fun _ => due_eq_none_iff.mpr fun r => (by cases r <;> simp [State.waiting, slot, queue, readback]),
      portLive_of_idle port⟩
  have moved (cause : Cause) {x : State} (slot : x.frame.slot = s.frame.slot) (queue : x.store.queue = s.store.queue)
      (readback : x.store.readback = s.store.readback) (port : x.store.port = s.store.port) :
      (startReform cause x).PortLaw := (ported_reformAfter s cause (sameRequests_of slot queue readback port)).2 law
  cases e with
  | count dir => exact (ported_shaftCount s dir).2 law
  | illegal =>
    unfold illegalStep
    dsimp only
    split
    · exact (ported_loseShaft _ _).2 (still rfl rfl rfl rfl)
    · exact still rfl rfl rfl rfl
  | index => exact (ported_takeIndex s).2 law
  | forwardComplete => exact (ported_completeForward s).2 law
  | reformComplete => exact (ported_completeReform s).2 law
  | frameData data => exact portLaw_grant (portLive_takeFrameData data rfl)
  | readbackData data => exact portLaw_grant (portLive_of_idle (by simp))
  | droppedRead => exact portLaw_grant (portLive_of_idle rfl)
  | commit k t =>
    rw [commitTable_eq]
    have raised {x : State} (h : x.PortLaw) : (raise (otherLink k) .claimFreed x).PortLaw :=
      (sameRequests_of (by simp) (by simp) (by simp) (by simp)).ported.2 h
    refine raised ?_
    split
    · apply moved <;> simp
    · apply still <;> simp
  | level on =>
    rw [setLevel_eq]
    split
    · exact moved _ rfl rfl rfl rfl
    · exact still rfl rfl rfl rfl
  | stepBack n | stepForward n | setPosition | swapNow => apply moved <;> simp
  | install => apply moved <;> simp
  | unload =>
    refine ((ported_discard s).trans (sameRequests_of ?_ ?_ ?_ ?_).ported).2 law <;> simp
  | openBank => exact (ported_emptyReadback _ _).2 (still (by simp) (by simp) (by simp) (by simp))
  | discardClosed => exact (ported_emptyReadback _ _).2 (still (by simp) (by simp) (by simp) (by simp))
  | discardOpen =>
    refine ((ported_dropQueue s).trans (.trans ?_ (ported_emptyReadback _ _))).2 law
    exact (sameRequests_of (by simp) (by simp) (by simp) (by simp)).ported
  | queueLine e =>
    refine (ported_grant (s := s) ?_ ?_).2 law
    · intro r b held
      cases r with
      | queue => cases queue : s.store.queue <;> simp_all [State.waiting]
      | frame | readback => exact held
    · rfl
  | readLine job free =>
    refine (ported_grant (s := s) ?_ ?_).2 law
    · intro r b held
      cases r with
      | readback => cases fills : s.store.readback <;> simp_all [State.waiting, Readback.isFilling]
      | frame | queue => exact held
    · rfl
  | setInput i b =>
    cases i <;> simp only [setReleaseInput] <;> split <;> apply still <;> simp
  | trackInput i b => cases i <;> exact still rfl rfl rfl rfl
  | resetPin ra rb => unfold keepFixed; split <;> exact idle rfl rfl rfl rfl
  | powerOn ra rb => exact idle rfl rfl rfl rfl
  | _ =>
    apply still <;>
      simp [stillExpiry, firstExpiry, secondExpiry, drawFree, clearEvents, setEnables, storeNote, setShadow, dropClaim,
        clearFault, resyncShaft, bringFeederIn, applyTiming, applyDrive, endReset]

/-- The law of the port rests on the frame builder and the pattern store. -/
theorem portLaw_congr (frame : t.frame = s.frame) (store : t.store = s.store) (law : s.PortLaw) : t.PortLaw :=
  (sameRequests_of (by rw [frame]) (by rw [store]) (by rw [store]) (by rw [store])).ported.2 law

/-- Rows and time keep the law of the port. -/
theorem kept_portLaw : Kept State.PortLaw where
  queues s c w h := portLaw_congr rfl rfl h
  wire s k b l _ h := portLaw_congr (by simp) (by simp) h
  closes s t c h := portLaw_congr (closes_store c).2 (closes_store c).1 h
  effect s t e h := portLaw_of_effect h e
  tick s h := portLaw_congr tick_store.2 tick_store.1 h

end Rows

/-- Settles O52: memory is written by a burst of the load queue alone, in canonical form; every operation keeps the
requests, drops one with its burst, or adds one and grants. -/
theorem patternMemoryKept : Obligations.PatternMemoryKept := by
  unfold Obligations.PatternMemoryKept
  refine ⟨fun s t canonical stepped => ?_, fun i s t answers other => ?_, fun s t waits stepped => ?_,
    fun s t law stepped => ?_⟩
  · have kept : Kept State.MemoryCanonical :=
      { queues := fun _ _ _ h => h
        wire := fun s k b l _ h => by simpa [State.MemoryCanonical] using h
        closes := fun s t c h => by rw [State.MemoryCanonical, (closes_store c).1]; exact h
        effect := fun s t e h => by rw [State.MemoryCanonical, memory_of_effect e]; exact h
        tick := fun s h => by rw [State.MemoryCanonical, tick_store.1]; exact h }
    refine kept.step (fun x b _ h => ?_) canonical stepped
    rw [State.MemoryCanonical, finishQueueBurst_memory]
    exact wf_writeBytes _ _ h
  · rcases exec_cases i answers with ⟨rfl, -⟩ | row
    · exact absurd rfl other
    · exact (kept_memory s.store.memory).row rfl row
  · exact (kept_memory s.store.memory).idle rfl waits stepped
  · exact kept_portLaw.step (fun x b _ _ => portLaw_finishQueueBurst b) law stepped

end Sys2Proof.Proofs
end

section
/-! PROOF. The validation of a commit (R135), the width check (R34) and the law of the live table at every step
(the third part of O57). -/

namespace Sys2Proof.Proofs

open Sys2Proof.Machine

/-! ## The validation of a commit (R135) -/

section Validation

variable (t : HarnessTable) (width : Option Nat) (i : Fin 16) (x : Section)

/-- The second test: a section shares no hook with a lower slot exactly when each lower section lies wholly beside it. -/
theorem overlapsBelow_eq_false_iff : t.overlapsBelow i x = false ↔ t.ClearBelow i x := by
  simp only [HarnessTable.overlapsBelow, List.any_eq_false, List.mem_finRange, true_implies, Bool.and_eq_true,
    decide_eq_true_eq, not_and, HarnessTable.ClearBelow]
  refine forall₂_congr fun j below => ?_
  cases t.sections[j] with
  | none => simp
  | some y => simp [Section.overlaps]; omega

/-- The third test: a SELVAGE section names a defined weave. -/
theorem selvageMissing_eq_false_iff : t.selvageMissing x = false ↔ t.SelvageDefined x := by
  unfold HarnessTable.selvageMissing HarnessTable.SelvageDefined
  cases x.kind <;> simp [Option.isSome_iff_ne_none]

/-- The fourth test: the columns of a FIGURE section lie below a width. -/
theorem reaches_eq_false_iff (w : Nat) : x.reaches w = false ↔ x.Narrow (some w) := by
  unfold Section.reaches Section.Narrow
  cases x.kind with
  | figure c0 n m =>
    constructor
    · rintro below _ _ _ _ ⟨⟩ ⟨⟩
      simpa using below
    · intro below
      simpa using below w c0 n m rfl rfl
  | selvage j => simp
  | dead => simp

/-- A slot fails with the cause of the first test it fails. -/
theorem slotFailure_eq_some_iff (c : InvalidCause) : t.slotFailure width i = some c ↔ t.Fails width i c := by
  unfold HarnessTable.slotFailure HarnessTable.Fails
  cases used : t.sections[i] with
  | none => simp
  | some x =>
    have within : t.hooks ≤ x.first + x.count - 1 ↔ ¬ t.WithinHooks x := Nat.not_lt.symm
    have clear : t.overlapsBelow i x = true ↔ ¬ t.ClearBelow i x := by
      rw [← overlapsBelow_eq_false_iff, Bool.not_eq_false]
    have selvage : t.selvageMissing x = true ↔ ¬ t.SelvageDefined x := by
      rw [← selvageMissing_eq_false_iff, Bool.not_eq_false]
    have last : (match width with
        | some w => if x.reaches w then some InvalidCause.tooWide else none
        | none => none) = some c ↔ ¬ x.Narrow width ∧ c = .tooWide := by
      cases width with
      | none => simp [Section.Narrow]
      | some w =>
        rw [← reaches_eq_false_iff, Bool.not_eq_false]
        by_cases reached : x.reaches w = true <;> simp [reached, @eq_comm _ c]
    simp only [within, clear, selvage, Option.some.injEq, exists_eq_left']
    by_cases h1 : t.WithinHooks x
    · by_cases h2 : t.ClearBelow i x
      · by_cases h3 : t.SelvageDefined x
        · simp only [eq_true h1, eq_true h2, eq_true h3, not_true, if_false, false_and, true_and, false_or]
          exact last
        · simp only [eq_true h1, eq_true h2, eq_false h3]
          simp [@eq_comm _ c]
      · simp only [eq_true h1, eq_false h2]
        simp [@eq_comm _ c]
    · simp only [eq_false h1]
      simp [@eq_comm _ c]

/-- A slot passes the validation. -/
theorem slotFailure_eq_none_iff :
    t.slotFailure width i = none ↔ ∀ c, ¬ t.Fails width i c := by
  simp only [← slotFailure_eq_some_iff, Option.eq_none_iff_forall_ne_some, ne_eq]

/-- The commit is valid exactly when no slot fails. -/
theorem failure_eq_none_iff : t.failure width = none ↔ ∀ i c, ¬ t.Fails width i c := by
  simp only [HarnessTable.failure, List.findSome?_eq_none_iff, List.mem_finRange, true_implies, Option.map_eq_none_iff,
    slotFailure_eq_none_iff]

/-- A table whose validation passes is sound (R128). -/
theorem sound_of_valid (valid : t.failure width = none) : t.Sound := by
  rw [failure_eq_none_iff] at valid
  intro i x used
  have passes (c : InvalidCause) := valid i c
  have within : t.WithinHooks x := by
    by_contra fails
    exact passes .beyondHooks ⟨x, used, .inl ⟨fails, rfl⟩⟩
  have clear : t.ClearBelow i x := by
    by_contra fails
    exact passes .overlap ⟨x, used, .inr (.inl ⟨within, fails, rfl⟩)⟩
  refine ⟨within, clear, fun j named => Option.isSome_iff_ne_none.mpr ?_⟩
  by_contra undefined
  exact passes .selvageUndefined ⟨x, used, .inr (.inr (.inl ⟨within, clear, fun defined => defined j named undefined, rfl⟩))⟩

/-- The width check passes exactly when the columns of every FIGURE section lie below the width (R34). -/
theorem fits_iff (w : Nat) : t.fits w = true ↔ ∀ i : Fin 16, ∀ x ∈ t.sections[i], x.Narrow (some w) := by
  have slot (i : Fin 16) : t.slotReaches w i = false ↔ ∀ x ∈ t.sections[i], x.Narrow (some w) := by
    unfold HarnessTable.slotReaches
    cases t.sections[i] with
    | none => simp
    | some x =>
      rw [reaches_eq_false_iff]
      exact ⟨fun below y held => Option.some.inj held ▸ below, fun below => below x rfl⟩
  simp only [HarnessTable.fits, HarnessTable.tooWide, Option.isNone_iff_eq_none, List.find?_eq_none, List.mem_finRange,
    true_implies, Bool.not_eq_true, slot]

/-- A table whose validation passes fits the weaving article (R136). -/
theorem fits_of_valid {w : Nat} (valid : t.failure (some w) = none) : t.fits w = true := by
  have sound := sound_of_valid t (some w) valid
  rw [failure_eq_none_iff] at valid
  refine (fits_iff t w).mpr fun i x used => ?_
  obtain ⟨within, clear, selvage⟩ := sound i x used
  by_contra wide
  exact valid i .tooWide
    ⟨x, used, .inr (.inr (.inr ⟨within, clear, fun j named => Option.isSome_iff_ne_none.mp (selvage j named), wide, rfl⟩))⟩

end Validation

/-! ## The live table at every step -/

section Tables

variable {s t : State}

/-- A section record that a row takes has a count of at least 1 (R56, log 36). -/
theorem count_of_sectionRecordOf {p : List Byte} {x : Section} (taken : sectionRecordOf p = .ok (some x)) : 1 ≤ x.count := by
  simp only [sectionRecordOf, sectionOf] at taken
  split at taken
  · cases taken
  · split at taken
    · cases taken
    · split at taken
      next made =>
        cases taken
        grind
      · cases taken

/-- The edits of a shadow keep its counts positive (R131–R133). -/
theorem countsPositive_of_edits {t t' : HarnessTable} (h : t.CountsPositive) (edits : EditsTable t t') :
    t'.CountsPositive := by
  obtain ⟨p, edit | edit | edit⟩ := edits
  · unfold writeChain at edit
    split at edit
    · cases edit
    · split at edit
      · cases edit
      · cases edit
        exact h
  · unfold writeSection at edit
    split at edit
    · cases edit
    next i _ =>
      split at edit
      · cases edit
      next made =>
        cases edit
        intro j x used
        by_cases same : i = j
        · subst same
          simp at used
          exact count_of_sectionRecordOf (used ▸ made)
        · refine h j x ?_
          simpa [Vector.getElem_set, Fin.val_inj, same] using used
  · unfold writeSelvage at edit
    split at edit
    · cases edit
    · split at edit
      · cases edit
      · cases edit
        exact h

/-- The law of the tables rests on the live table and the claim. -/
theorem tableLaw_congr (live : t.harness.live = s.harness.live) (claim : t.harness.claim = s.harness.claim)
    (law : s.TableLaw) : t.TableLaw := by
  rw [State.TableLaw, live, claim]
  exact law

/-- What closes a row leaves every block. -/
theorem closes_keeps (c : Closes s t) :
    t.shaft = s.shaft ∧ t.pick = s.pick ∧ t.frame = s.frame ∧ t.harness = s.harness ∧ t.store = s.store ∧
      t.inReset = s.inReset := by
  cases c <;> simp

/-- Time moves the shaft and, of the harness unit, the stage, the timer and the drivers. -/
theorem tick_keeps :
    (tick s).pick = s.pick ∧ (tick s).frame = s.frame ∧ (tick s).store = s.store ∧
      (tick s).shaft.reference = s.shaft.reference ∧ (tick s).harness.live = s.harness.live ∧
      (tick s).harness.claim = s.harness.claim := by
  have still (x : State) : (tickStill x).pick = x.pick ∧ (tickStill x).harness = x.harness ∧
      (tickStill x).shaft.reference = x.shaft.reference := by
    unfold tickStill
    split
    · exact ⟨rfl, rfl, rfl⟩
    · split <;> exact ⟨rfl, rfl, rfl⟩
  have standstill (x : State) : (tickStandstill x).pick = x.pick ∧
      (tickStandstill x).shaft = x.shaft ∧ (tickStandstill x).harness.live = x.harness.live ∧
      (tickStandstill x).harness.claim = x.harness.claim := by
    unfold tickStandstill
    split
    · exact ⟨rfl, rfl, rfl, rfl⟩
    · exact ⟨rfl, rfl, rfl, rfl⟩
    · split
      · simp [firstExpiry, followDrivers]
      · exact ⟨rfl, rfl, rfl, rfl⟩
    · split
      · simp [secondExpiry, followDrivers]
      · exact ⟨rfl, rfl, rfl, rfl⟩
  refine ⟨?_, tick_store.2, tick_store.1, ?_⟩
  all_goals
    unfold tick
    split
    · simp
    · simp [still, standstill, Shaft.countMicrosecond]

/-- Every effect of a row keeps the law of the tables. -/
theorem tableLaw_of_effect (law : s.TableLaw) (e : Effect s t) : t.TableLaw := by
  have still {x : State} (same : x.harness.live = s.harness.live ∧ x.harness.claim = s.harness.claim) : x.TableLaw :=
    tableLaw_congr same.1 same.2 law
  have empty : HarnessTable.empty.Sound ∧ HarnessTable.empty.CountsPositive := by
    constructor <;> intro i x used <;> simp [HarnessTable.empty] at used
  obtain ⟨sound, counts, shadows⟩ := law
  have held (k : Link) {x : HarnessTable} (own : s.shadowOf k = some x) : x.CountsPositive := by
    unfold State.shadowOf at own
    split at own
    next c claimed =>
      split at own
      · cases own
        exact shadows c claimed
      · cases own
    · cases own
  cases e with
  | illegal => unfold illegalStep; dsimp only; split <;> exact still (by simp)
  | setInput i b => cases i <;> simp only [setReleaseInput] <;> split <;> exact still (by simp)
  | trackInput i b => cases i <;> exact still ⟨rfl, rfl⟩
  | claim k => exact ⟨sound, counts, by rintro c ⟨⟩; exact counts⟩
  | shadow k x x' own edits => exact ⟨sound, counts, by rintro c ⟨⟩; exact countsPositive_of_edits (held k own) edits⟩
  | commit k x own valid =>
    rw [State.TableLaw, commitTable_eq]
    split <;> simpa using ⟨sound_of_valid x _ valid, held k own⟩
  | freeClaim k => exact ⟨by simpa [dropClaim] using sound, by simpa [dropClaim] using counts, by simp [dropClaim]⟩
  | level on => rw [setLevel_eq]; split <;> exact still (by simp)
  | unload => exact still (by simp [unloadArticle, standstillOff, weftOff, followDrivers])
  | resetPin ra rb =>
    unfold keepFixed
    split
    · exact ⟨sound, counts, nofun⟩
    · exact ⟨empty.1, empty.2, nofun⟩
  | powerOn ra rb => exact ⟨empty.1, empty.2, nofun⟩
  | _ =>
    refine still ?_
    simp [finishFrameBurst, finishReadbackBurst, stillExpiry, firstExpiry, secondExpiry, followDrivers, drawFree,
      clearEvents, setEnables, storeNote, clearFault, stepBack, stepForward, finishMove, resyncShaft, bringFeederIn,
      applyTiming, applyDrive, install, endReset]

/-- A completed burst of the load queue leaves the harness unit. -/
theorem finishQueueBurst_harness (b : Burst) : (finishQueueBurst b s).harness = s.harness := by
  have advance (x : State) : (advanceQueue x).harness = x.harness := by
    unfold advanceQueue
    split
    · rfl
    · split
      · rfl
      · unfold finishEntry
        dsimp only
        split <;> simp
  unfold finishQueueBurst
  dsimp only
  split <;> simp [advance]

/-- Rows and time keep the law of the tables. -/
theorem kept_tableLaw : Kept State.TableLaw where
  queues s c w h := h
  wire s k b l _ h := tableLaw_congr (by simp) (by simp) h
  closes s t c h := by
    obtain ⟨-, -, -, harness, -, -⟩ := closes_keeps c
    exact tableLaw_congr (by rw [harness]) (by rw [harness]) h
  effect s t e h := tableLaw_of_effect h e
  tick s h := by
    obtain ⟨-, -, -, -, live, claim⟩ := tick_keeps (s := s)
    exact tableLaw_congr live claim h

end Tables

end Sys2Proof.Proofs
end

section
/-! PROOF. The law of the engine, the banks, the queue and the pending frame at every step, with the width and position
laws that rest on it (O56, O57). -/

namespace Sys2Proof.Proofs

open Sys2Proof.Machine

/-! ## Complete articles (R150) -/

section Articles

variable {a : Article}

/-- Every line of a complete article has a step. -/
theorem len_pos_of_complete (complete : a.Complete) {line : Nat} (below : line < a.height) : 0 < a.len line := by
  obtain ⟨-, lines, valid, schemes, -⟩ := complete
  rw [validate_eq_iff] at valid
  obtain ⟨missing, undefined, -⟩ := valid
  have inside : line < a.lines.length := lines ▸ below
  have written := missingLine_eq_none_iff a |>.mp missing line inside
  obtain ⟨n, named⟩ := Option.isSome_iff_exists.mp written
  have listed : some n ∈ a.lines := by
    rw [schemeNumber_eq_getElem a inside] at named
    exact named ▸ List.getElem_mem inside
  have defined := undefinedScheme_eq_none_iff a |>.mp undefined n listed
  obtain ⟨steps, held⟩ := Option.ne_none_iff_exists'.mp defined
  have some_steps : steps ≠ [] := fun empty => schemes n (empty ▸ held)
  simp only [Article.len, Article.stepsAt, named, held, Option.getD_some]
  exact List.length_pos_of_ne_nil some_steps

/-- The first pick of a complete article (R26). -/
theorem holds_first (complete : a.Complete) : a.Holds 0 0 :=
  ⟨complete.1, len_pos_of_complete complete complete.1⟩

/-- The last pick of a complete article (R25). -/
theorem holds_lastPick (complete : a.Complete) : a.Holds a.lastPick.1 a.lastPick.2 := by
  have below : a.height - 1 < a.height := Nat.sub_lt complete.1 one_pos
  exact ⟨below, Nat.sub_lt (len_pos_of_complete complete below) one_pos⟩

/-- The next pick of a complete article (R24). -/
theorem holds_nextPick (complete : a.Complete) {line step : Nat} (at_ : a.Holds line step) {q : Nat × Nat}
    (next : a.nextPick line step = some q) : a.Holds q.1 q.2 := by
  unfold Article.nextPick at next
  split at next
  next within =>
    cases next
    exact ⟨at_.1, within⟩
  · split at next
    next below =>
      cases next
      exact ⟨below, len_pos_of_complete complete below⟩
    · cases next

/-- The pick before, of a complete article (R25). -/
theorem holds_prevPick (complete : a.Complete) {line step : Nat} (at_ : a.Holds line step) {q : Nat × Nat}
    (prev : a.prevPick line step = some q) : a.Holds q.1 q.2 := by
  unfold Article.prevPick at prev
  split at prev
  · cases prev
    exact ⟨at_.1, (Nat.sub_le _ _).trans_lt at_.2⟩
  · split at prev
    · cases prev
      have below : line - 1 < a.height := (Nat.sub_le _ _).trans_lt at_.1
      exact ⟨below, Nat.sub_lt (len_pos_of_complete complete below) one_pos⟩
    · cases prev

/-- A retained position is no part of what the close validation tests, and of the picks an article holds. -/
theorem complete_withRetained (complete : a.Complete) (r : Option Retained)
    (held : ∀ x ∈ r, a.Holds x.line x.step) : ({ a with retained := r } : Article).Complete := by
  obtain ⟨height, lines, valid, schemes, -⟩ := complete
  exact ⟨height, lines, valid, schemes, held⟩

end Articles

/-! ## The law without the swap mark -/

/-- A statement about both banks is one about a bank and the other. -/
theorem forall_bank (b : BankId) {P : BankId → Prop} : (∀ k, P k) ↔ P b ∧ P (otherBank b) := by
  constructor
  · exact fun h => ⟨h b, h _⟩
  · rintro ⟨own, other⟩ k
    cases b <;> cases k <;> assumption

/-- The law of the engine, the banks, the queue and the slot but for the owed re-form and the swap mark, with the first
half of the width law where `w` holds and the position law where `p` does. -/
structure Core (w p : Prop) (s : State) : Prop where
  alone : ∀ b, (s.bank b).state = .weaving → (s.bank (otherBank b)).state ≠ .weaving
  beside : ∀ b, (s.bank b).state = .armed ∨ (s.bank b).state = .retired → (s.bank (otherBank b)).state = .weaving
  loaded : ∀ b, (s.bank b).state.beingLoaded = true → (s.bank (otherBank b)).state.beingLoaded = false
  record : ∀ b, (s.bank b).RecordSound
  retained : ∀ b, (s.bank b).RetainedSound
  four : s.store.queue.length ≤ 4
  queued : ∀ b, ∀ e ∈ s.store.queue, e.bank = b → (s.bank b).state.beingLoaded = true
  closing : ∀ b, (s.bank b).state = .closing → s.store.queue ≠ []
  absent : s.pick.engine = .noArticle ↔ s.pick.position = none
  named : ∀ q, s.pick.position = some q → (s.bank q.bank).state = .weaving
  unnamed : s.pick.position = none → ∀ b, (s.bank b).state ≠ .weaving
  lost : s.pick.engine = .unsynchronised → s.shaft.reference = .lost
  sixteen : s.pick.history.length ≤ 16
  slot : s.frame.slot = .empty ∨ (s.pick.engine = .weaving ∧ s.shaft.reference = .referenced)
  reforming : s.pick.reforming = s.frame.slot.isReform
  fits : w → ∀ q, s.pick.position = some q → s.fits q.bank = true
  shaped : p → ∀ b, (s.bank b).ArticleSound
  holds : p → ∀ q, s.pick.position = some q → (s.article q.bank).Holds q.line q.step

/-- A re-form is owed exactly while an article weaves and the shaft is not REFERENCED (R107, R177). -/
def Owes (s : State) : Prop :=
  s.frame.owed.isSome = true ↔ s.pick.engine ≠ .noArticle ∧ s.shaft.reference ≠ .referenced

/-- The bank a swap-marked frame has been built from is ARMED, and passes the width check where `w` holds (R36, R60). -/
def Marked (w : Prop) (s : State) : Prop :=
  s.swapPending = true → ∀ q, s.pick.position = some q →
    (s.bank (otherBank q.bank)).state = .armed ∧ (w → s.fits (otherBank q.bank) = true)

/-- All of it. -/
def Laws (w p : Prop) (s : State) : Prop := Core w p s ∧ Owes s ∧ Marked w s

/-- The laws are those of the statements. -/
theorem laws_iff (w p : Prop) (s : State) :
    Laws w p s ↔ s.EngineLaw ∧ (w → s.WidthLaw) ∧ (p → s.PositionLaw) := by
  constructor
  · rintro ⟨core, owes, marked⟩
    refine ⟨⟨?_, ?_, ?_, ?_⟩, fun hw q at_ => ?_, fun hp => ?_⟩
    · exact ⟨fun both => core.alone .bankA both.1 both.2, core.beside .bankA, core.beside .bankB,
        fun both => Bool.false_ne_true ((core.loaded .bankA both.1).symm.trans both.2), core.record _, core.record _,
        core.retained _, core.retained _⟩
    · exact ⟨core.four, fun e queued => core.queued _ e queued rfl, fun h => h.elim (core.closing _) (core.closing _)⟩
    · exact ⟨core.absent, core.named, fun none => ⟨core.unnamed none _, core.unnamed none _⟩, core.lost, core.sixteen⟩
    · exact ⟨core.slot, core.reforming, owes, fun pending q at_ => (marked pending q at_).1⟩
    · exact ⟨core.fits hw q at_, fun pending => (marked pending q at_).2 hw⟩
    · exact ⟨core.shaped hp _, core.shaped hp _, core.holds hp⟩
  · rintro ⟨⟨⟨alone, besideA, besideB, loaded, recordA, recordB, retainedA, retainedB⟩, ⟨four, queued, closing⟩,
      ⟨absent, named, unnamed, lost, sixteen⟩, ⟨slot, reforming, owes, armed⟩⟩, width, position⟩
    refine ⟨?_, owes, fun pending q at_ => ⟨armed pending q at_, fun hw => (width hw q at_).2 pending⟩⟩
    exact
      { alone := (forall_bank .bankA).mpr ⟨fun a b => alone ⟨a, b⟩, fun b a => alone ⟨a, b⟩⟩
        beside := (forall_bank .bankA).mpr ⟨besideA, besideB⟩
        loaded := (forall_bank .bankA).mpr
          ⟨fun a => Bool.eq_false_iff.mpr fun b => loaded ⟨a, b⟩, fun b => Bool.eq_false_iff.mpr fun a => loaded ⟨a, b⟩⟩
        record := (forall_bank .bankA).mpr ⟨recordA, recordB⟩
        retained := (forall_bank .bankA).mpr ⟨retainedA, retainedB⟩
        four := four
        queued := fun b e held same => same ▸ queued e held
        closing := (forall_bank .bankA).mpr ⟨fun a => closing (.inl a), fun b => closing (.inr b)⟩
        absent := absent
        named := named
        unnamed := fun none => (forall_bank .bankA).mpr (unnamed none)
        lost := lost
        sixteen := sixteen
        slot := slot
        reforming := reforming
        fits := fun hw q at_ => (width hw q at_).1
        shaped := fun hp => (forall_bank .bankA).mpr ⟨(position hp).1, (position hp).2.1⟩
        holds := fun hp => (position hp).2.2 }

/-! ## What the law rests on -/

section Congruence

variable {w p : Prop} {s t : State}

/-- The banks and the load queue. -/
def storeView (s : State) : Bank × Bank × List QueueEntry := (s.store.bankA, s.store.bankB, s.store.queue)

/-- The engine, the position, the reference state and the live table. -/
def weaveView (s : State) : Engine × Option Position × Reference × HarnessTable :=
  (s.pick.engine, s.pick.position, s.shaft.reference, s.harness.live)

/-- The slot, the re-forming flag, the history and the owed re-form. -/
def slotView (s : State) : Slot × Bool × List HistoryRecord × Option Cause :=
  (s.frame.slot, s.pick.reforming, s.pick.history, s.frame.owed)

theorem bank_of_storeView (store : storeView t = storeView s) (b : BankId) : t.bank b = s.bank b := by
  simp only [storeView, Prod.mk.injEq] at store
  exact bank_congr store.1 store.2.1 b

theorem fits_of_views (store : storeView t = storeView s) (weave : weaveView t = weaveView s) (b : BankId) :
    t.fits b = s.fits b := by
  simp only [weaveView, Prod.mk.injEq] at weave
  rw [State.fits, State.fits, weave.2.2.2, State.article, State.article, bank_of_storeView store]

/-- Another frame in the slot, or none, and another history. -/
theorem Core.reslot (h : Core w p s) (store : storeView t = storeView s) (weave : weaveView t = weaveView s)
    (sixteen : t.pick.history.length ≤ 16)
    (slot : t.frame.slot = .empty ∨ (s.pick.engine = .weaving ∧ s.shaft.reference = .referenced))
    (reforming : t.pick.reforming = t.frame.slot.isReform) : Core w p t := by
  have bank := bank_of_storeView store
  have fits := fits_of_views store weave
  simp only [storeView, weaveView, Prod.mk.injEq] at store weave
  obtain ⟨-, -, queue⟩ := store
  obtain ⟨engine, position, reference, -⟩ := weave
  obtain ⟨alone, beside, loaded, record, retained, four, queued, closing, absent, named, unnamed, lost, -, -, -, hfits,
    shaped, holds⟩ := h
  constructor <;> simp only [State.article, bank, fits, queue, engine, position, reference] at * <;> assumption

/-- The parts of the law that no part of its view has moved. -/
theorem Core.congr (h : Core w p s) (store : storeView t = storeView s) (weave : weaveView t = weaveView s)
    (slot : slotView t = slotView s) : Core w p t := by
  simp only [slotView, Prod.mk.injEq] at slot
  obtain ⟨held, reforming, history, -⟩ := slot
  exact h.reslot store weave (history ▸ h.sixteen) (held ▸ h.slot) (by rw [reforming, held]; exact h.reforming)

theorem Owes.congr (h : Owes s) (weave : weaveView t = weaveView s) (owed : t.frame.owed = s.frame.owed) : Owes t := by
  simp only [weaveView, Prod.mk.injEq] at weave
  rw [Owes, owed, weave.1, weave.2.2.1]
  exact h

theorem Marked.congr (h : Marked w s) (store : storeView t = storeView s) (weave : weaveView t = weaveView s)
    (pending : t.swapPending = true → s.swapPending = true) : Marked w t := by
  have bank := bank_of_storeView store
  have fits := fits_of_views store weave
  simp only [weaveView, Prod.mk.injEq] at weave
  intro held q at_
  rw [bank, fits]
  exact h (pending held) q (weave.2.1 ▸ at_)

theorem marked_of_empty (empty : s.frame.slot = .empty) : Marked w s := by
  intro pending
  simp [State.swapPending, empty] at pending

theorem Laws.congr (h : Laws w p s) (store : storeView t = storeView s) (weave : weaveView t = weaveView s)
    (slot : slotView t = slotView s) : Laws w p t := by
  have same := slot
  simp only [slotView, Prod.mk.injEq] at same
  obtain ⟨held, -, -, owed⟩ := same
  exact ⟨h.1.congr store weave slot, h.2.1.congr weave owed,
    h.2.2.congr store weave fun pending => (by simpa only [State.swapPending, held] using pending)⟩

/-- A bank that does not weave, and the load queue, are changed. -/
theorem Core.load (h : Core w p s) (b : BankId) (weave : weaveView t = weaveView s) (slot : slotView t = slotView s)
    (other : t.bank (otherBank b) = s.bank (otherBank b)) (old : (s.bank b).state ≠ .weaving)
    (new : (t.bank b).state ≠ .weaving)
    (beside : (t.bank b).state = .armed ∨ (t.bank b).state = .retired → (s.bank (otherBank b)).state = .weaving)
    (loaded : (t.bank b).state.beingLoaded = true → (s.bank (otherBank b)).state.beingLoaded = false)
    (record : (t.bank b).RecordSound) (retained : (t.bank b).RetainedSound) (four : t.store.queue.length ≤ 4)
    (queued : ∀ e ∈ t.store.queue, (t.bank e.bank).state.beingLoaded = true)
    (closing : (t.bank b).state = .closing ∨ (s.bank (otherBank b)).state = .closing → t.store.queue ≠ [])
    (shaped : p → (t.bank b).ArticleSound) : Core w p t := by
  simp only [weaveView, slotView, Prod.mk.injEq] at weave slot
  obtain ⟨engine, position, reference, live⟩ := weave
  obtain ⟨held, reforming, history, -⟩ := slot
  have free : ¬ ((s.bank (otherBank b)).state = .armed ∨ (s.bank (otherBank b)).state = .retired) := fun stands =>
    old (by simpa using h.beside (otherBank b) stands)
  have elsewhere {q : Position} (at_ : s.pick.position = some q) : t.bank q.bank = s.bank q.bank := by
    have weaves := h.named q at_
    have same : q.bank = otherBank b := by
      cases b <;> cases hq : q.bank <;> simp_all
    rw [same]
    exact other
  exact
    { alone := (forall_bank b).mpr ⟨fun stands => absurd stands new, fun _ => by simpa using new⟩
      beside := (forall_bank b).mpr ⟨fun stands => by rw [other]; exact beside stands,
        fun stands => absurd (other ▸ stands) free⟩
      loaded := (forall_bank b).mpr ⟨fun stands => by rw [other]; exact loaded stands, fun stands => by
        rw [otherBank_otherBank, Bool.eq_false_iff]
        exact fun own => Bool.false_ne_true ((loaded own).symm.trans (other ▸ stands))⟩
      record := (forall_bank b).mpr ⟨record, other ▸ h.record _⟩
      retained := (forall_bank b).mpr ⟨retained, other ▸ h.retained _⟩
      four := four
      queued := fun k e held same => same ▸ queued e held
      closing := (forall_bank b).mpr ⟨fun stands => closing (.inl stands), fun stands => closing (.inr (other ▸ stands))⟩
      absent := by rw [engine, position]; exact h.absent
      named := fun q at_ => by rw [elsewhere (position ▸ at_)]; exact h.named q (position ▸ at_)
      unnamed := fun none => (forall_bank b).mpr ⟨new, other ▸ h.unnamed (position ▸ none) _⟩
      lost := by rw [engine, reference]; exact h.lost
      sixteen := history ▸ h.sixteen
      slot := by rw [held, engine, reference]; exact h.slot
      reforming := by rw [reforming, held]; exact h.reforming
      fits := fun hw q at_ => by
        rw [State.fits, live, State.article, elsewhere (position ▸ at_)]
        exact h.fits hw q (position ▸ at_)
      shaped := fun hp => (forall_bank b).mpr ⟨shaped hp, other ▸ h.shaped hp _⟩
      holds := fun hp q at_ => by
        rw [State.article, elsewhere (position ▸ at_)]
        exact h.holds hp q (position ▸ at_) }

end Congruence

/-! ## The moves of the position -/

section Moves

variable {w p : Prop} {s t : State} {q : Position}

/-- The article of the WEAVING bank is complete (R150). -/
theorem Core.complete (h : Core w p s) (hp : p) {b : BankId} (closed : (s.bank b).state.beingLoaded = false)
    (stands : (s.bank b).state ≠ .empty) : (s.article b).Complete := by
  have present : (s.bank b).record.isSome = true := by
    rw [h.record b]
    cases hs : (s.bank b).state <;> simp_all [BankState.holdsArticle]
  obtain ⟨a, held⟩ := Option.isSome_iff_exists.mp present
  rw [State.article, Bank.article, held]
  exact (h.shaped hp b a held).2 closed

theorem Core.complete_weaving (h : Core w p s) (hp : p) (at_ : s.pick.position = some q) :
    (s.article q.bank).Complete := by
  have weaves := h.named q at_
  exact h.complete hp (by rw [weaves]; rfl) (by rw [weaves]; decide)

/-- The engine weaves, or stands UNSYNCHRONISED, while it has a position. -/
theorem Core.ne_noArticle (h : Core w p s) (at_ : s.pick.position = some q) : s.pick.engine ≠ .noArticle := by
  rw [Ne, h.absent, at_]
  nofun

/-- A move within the WEAVING bank. -/
theorem Core.setPosition (h : Core w p s) (at_ : s.pick.position = some q) {r : Position} (bank : r.bank = q.bank)
    (holds : p → (s.article q.bank).Holds r.line r.step) : Core w p (setPosition r s) := by
  have named := h.named q at_
  exact
    { h with
      absent := by
        have stands := h.ne_noArticle at_
        simp [stands]
      named := by rintro _ ⟨⟩; rw [bank]; exact named
      unnamed := nofun
      fits := by rintro hw _ ⟨⟩; rw [bank]; exact h.fits hw q at_
      holds := by rintro hp _ ⟨⟩; rw [bank]; exact holds hp }

/-- A wrap within the article (R24, R28). -/
theorem Core.plainWrap (h : Core w p s) (at_ : s.pick.position = some q) : Core w p (plainWrap q s) := by
  refine (h.setPosition at_ (r := q.wrapped) rfl fun hp => holds_first (h.complete_weaving hp at_)).congr ?_ ?_ ?_ <;>
    simp [Machine.plainWrap, storeView, weaveView, slotView]

/-- A refused swap makes the ARMED bank READY (R37). -/
@[simp] theorem bank_refuseSwap (b : BankId) : (Machine.refuseSwap b s).bank b = (s.bank b).withState .ready := by
  cases b <;> rfl

/-- A refused swap leaves the other bank (R37). -/
@[simp] theorem other_refuseSwap (b : BankId) :
    (Machine.refuseSwap b s).bank (otherBank b) = s.bank (otherBank b) := by
  cases b <;> rfl

/-- A swap retires the weaving bank with its position (R36). -/
theorem bank_commitSwap (q : Position) : (commitSwap q s).bank q.bank =
    ((s.bank q.bank).withRetained (some { line := q.line, step := q.step, rep := q.rep })).withState .retired := by
  obtain ⟨b, _, _, _⟩ := q
  cases b <;> rfl

/-- A swap sets the other bank weaving (R36). -/
theorem other_commitSwap (q : Position) :
    (commitSwap q s).bank (otherBank q.bank) = (s.bank (otherBank q.bank)).withState .weaving := by
  obtain ⟨b, _, _, _⟩ := q
  cases b <;> rfl

/-- An undo arms the bank that wove (R40). -/
theorem bank_undoSwap (q : Position) : (undoSwap q s).bank q.bank = (s.bank q.bank).withState .armed := by
  obtain ⟨b, _, _, _⟩ := q
  cases b <;> rfl

/-- An undo sets the RETIRED bank weaving, with no position retained (R40). -/
theorem other_undoSwap (q : Position) : (undoSwap q s).bank (otherBank q.bank) =
    ((s.bank (otherBank q.bank)).withRetained none).withState .weaving := by
  obtain ⟨b, _, _, _⟩ := q
  cases b <;> rfl

/-- A bank with another retained position reads the same article otherwise. -/
theorem article_withRetained (b : Bank) (r : Option Retained) :
    (b.withRetained r).article.width = b.article.width ∧
      (b.record.isSome = true → (b.withRetained r).article = { b.article with retained := r }) := by
  cases h : b.record <;> simp [Bank.article, Bank.withRetained, h]

/-- A refused swap leaves a READY bank beside the WEAVING one (R37). -/
theorem Core.refuseSwap (h : Core w p s) {b : BankId} (armed : (s.bank b).state = .armed) :
    Core w p (refuseSwap b s) := by
  have record := h.record b
  have retained := h.retained b
  have stands : (s.bank (otherBank b)).state = .weaving := h.beside b (.inl armed)
  have elsewhere (e : QueueEntry) (queued : e ∈ s.store.queue) : e.bank = otherBank b := by
    by_contra ne
    have own : e.bank = b := by cases b <;> cases hb : e.bank <;> simp_all
    have loads := h.queued b e queued own
    rw [armed] at loads
    cases loads
  rw [Bank.RecordSound, armed] at record
  rw [Bank.RetainedSound, armed] at retained
  refine h.load b (by simp [weaveView]) (by simp [slotView]) (other_refuseSwap b) (by rw [armed]; decide) ?_ ?_ ?_ ?_ ?_
    ?_ ?_ ?_ ?_ <;> try rw [bank_refuseSwap]
  · simp
  · simp
  · simp [BankState.beingLoaded]
  · exact record
  · exact retained
  · simpa using h.four
  · intro e queued
    simp only [refuseSwap_keeps] at queued
    rw [elsewhere e queued, other_refuseSwap]
    exact h.queued _ e queued (elsewhere e queued)
  · rw [stands]
    rintro (own | own) <;> cases own
  · intro hp a held
    obtain ⟨well, complete⟩ := h.shaped hp b a held
    exact ⟨well, fun _ => complete (by rw [armed]; rfl)⟩

/-- The weaving bank changes: the one that wove is RETIRED or ARMED, the other one weaves. -/
theorem Core.exchange (h : Core w p s) (at_ : s.pick.position = some q) {r : Position}
    (engine : t.pick.engine = s.pick.engine) (reference : t.shaft.reference = s.shaft.reference)
    (queue : t.store.queue = s.store.queue) (slot : slotView t = slotView s) (position : t.pick.position = some r)
    (bank : r.bank = otherBank q.bank)
    (old : (t.bank q.bank).state = .armed ∨ (t.bank q.bank).state = .retired)
    (new : (t.bank (otherBank q.bank)).state = .weaving)
    (waited : (s.bank (otherBank q.bank)).state.beingLoaded = false) (record : ∀ b, (t.bank b).RecordSound)
    (retained : ∀ b, (t.bank b).RetainedSound) (fits : w → t.fits (otherBank q.bank) = true)
    (shaped : p → ∀ b, (t.bank b).ArticleSound)
    (holds : p → (t.article (otherBank q.bank)).Holds r.line r.step) : Core w p t := by
  simp only [slotView, Prod.mk.injEq] at slot
  obtain ⟨held, reforming, history, -⟩ := slot
  have weaves := h.named q at_
  have idle : ∀ b, (s.bank b).state.beingLoaded = false :=
    (forall_bank q.bank).mpr ⟨by rw [weaves]; rfl, waited⟩
  have drained : s.store.queue = [] := List.eq_nil_iff_forall_not_mem.mpr fun e queued =>
    Bool.false_ne_true ((idle _).symm.trans (h.queued _ e queued rfl))
  have unloaded : ∀ b, (t.bank b).state.beingLoaded = false := by
    refine (forall_bank q.bank).mpr ⟨?_, by rw [new]; rfl⟩
    rcases old with old | old <;> rw [old] <;> rfl
  have notOld : (t.bank q.bank).state ≠ .weaving := by rcases old with old | old <;> rw [old] <;> decide
  exact
    { alone := (forall_bank q.bank).mpr ⟨fun own => absurd own notOld, fun _ => by simpa using notOld⟩
      beside := (forall_bank q.bank).mpr ⟨fun _ => new, fun other => by rw [new] at other; simp at other⟩
      loaded := fun b own => absurd own (by rw [unloaded]; exact Bool.false_ne_true)
      record := record
      retained := retained
      four := by rw [queue]; exact h.four
      queued := fun b e queued => by rw [queue, drained] at queued; cases queued
      closing := fun b own => by have idle := unloaded b; rw [own] at idle; cases idle
      absent := by
        have stands := h.ne_noArticle at_
        simp [engine, position, stands]
      named := fun x named => by cases position.symm.trans named; rw [bank]; exact new
      unnamed := fun none => by cases position.symm.trans none
      lost := by rw [engine, reference]; exact h.lost
      sixteen := history ▸ h.sixteen
      slot := by rw [held, engine, reference]; exact h.slot
      reforming := by rw [reforming, held]; exact h.reforming
      fits := fun hw x named => by cases position.symm.trans named; rw [bank]; exact fits hw
      shaped := shaped
      holds := fun hp x named => by cases position.symm.trans named; rw [bank]; exact holds hp }

/-- A bank from READY on keeps a sound article whatever it does then, with a retained position the article holds. -/
theorem Core.kept_article (h : Core w p s) (hp : p) {b : BankId} (closed : (s.bank b).state.beingLoaded = false)
    (r : Option Retained) (held : ∀ x ∈ r, (s.article b).Holds x.line x.step) (x : BankState) :
    (((s.bank b).withRetained r).withState x).ArticleSound := by
  intro a' kept
  obtain ⟨a, found, rfl⟩ := Option.map_eq_some_iff.mp kept
  obtain ⟨well, complete⟩ := h.shaped hp b a found
  have same : s.article b = a := by rw [State.article, Bank.article, found]; rfl
  exact ⟨well, fun _ => complete_withRetained (complete closed) r (same ▸ held)⟩

/-- A bank that keeps its record. -/
theorem Core.kept_record (h : Core w p s) {b : BankId} (stands : (s.bank b).state ≠ .empty) :
    (s.bank b).record.isSome = true := by
  rw [h.record b]
  cases hs : (s.bank b).state <;> simp_all [BankState.holdsArticle]

/-- The article the WEAVING bank changes to at a swap: the RETIRED bank keeps its position, the other one weaves at its
first pick (R36, R45). -/
theorem Core.commitSwap (h : Core w p s) (at_ : s.pick.position = some q)
    (waits : (s.bank (otherBank q.bank)).state = .ready ∨ (s.bank (otherBank q.bank)).state = .armed)
    (fits : w → s.fits (otherBank q.bank) = true) : Core w p (commitSwap q s) := by
  have weaves := h.named q at_
  have own := bank_commitSwap (s := s) q
  have other := other_commitSwap (s := s) q
  have closed : (s.bank (otherBank q.bank)).state.beingLoaded = false := by
    rcases waits with waits | waits <;> rw [waits] <;> rfl
  have recordOwn := h.kept_record (b := q.bank) (by rw [weaves]; decide)
  have recordOther := h.kept_record (b := otherBank q.bank) (by rcases waits with waits | waits <;> rw [waits] <;> decide)
  have blank : ((s.bank (otherBank q.bank)).record.bind (·.retained)).isSome = false := by
    rw [h.retained]
    rcases waits with waits | waits <;> rw [waits] <;> rfl
  refine h.exchange at_ (r := Position.first (otherBank q.bank)) (by simp) (by simp) (by simp) (by simp [slotView])
    (by simp [Machine.commitSwap]) rfl (.inr (by rw [own]; rfl)) (by rw [other]; rfl) closed ?_ ?_ ?_ ?_ ?_
  · refine (forall_bank q.bank).mpr ⟨?_, ?_⟩
    · rw [own, Bank.RecordSound]
      simpa [BankState.holdsArticle] using recordOwn
    · rw [other, Bank.RecordSound]
      simpa [BankState.holdsArticle] using recordOther
  · refine (forall_bank q.bank).mpr ⟨?_, ?_⟩
    · obtain ⟨a, found⟩ := Option.isSome_iff_exists.mp recordOwn
      rw [own, Bank.RetainedSound]
      simp [found]
    · rw [other, Bank.RetainedSound]
      exact blank
  · intro hw
    have check := fits hw
    rw [State.fits, State.article] at check ⊢
    simp only [other, commitSwap_keeps]
    exact check
  · intro hp
    refine (forall_bank q.bank).mpr ⟨?_, ?_⟩
    · rw [own]
      refine h.kept_article hp (by rw [weaves]; rfl) _ ?_ _
      rintro x ⟨⟩
      exact h.holds hp q at_
    · rw [other]
      intro a held
      obtain ⟨well, complete⟩ := h.shaped hp _ a held
      exact ⟨well, fun _ => complete closed⟩
  · intro hp
    have complete := h.complete hp closed (by rcases waits with waits | waits <;> rw [waits] <;> decide)
    rw [State.article, other]
    exact holds_first complete

/-- The article the WEAVING bank changes to at an undo: the RETIRED bank weaves again where it left (R40). -/
theorem Core.undoSwap (h : Core w p s) (at_ : s.pick.position = some q)
    (waits : (s.bank (otherBank q.bank)).state = .retired) (fits : w → s.fits (otherBank q.bank) = true) :
    Core w p (undoSwap q s) := by
  have weaves := h.named q at_
  have own := bank_undoSwap (s := s) q
  have other := other_undoSwap (s := s) q
  have recordOwn := h.kept_record (b := q.bank) (by rw [weaves]; decide)
  have blank : ((s.bank q.bank).record.bind (·.retained)).isSome = false := by rw [h.retained, weaves]; rfl
  have kept : ((s.bank (otherBank q.bank)).record.bind (·.retained)).isSome = true := by rw [h.retained, waits]; rfl
  obtain ⟨r, retained⟩ := Option.isSome_iff_exists.mp kept
  obtain ⟨a, found, place⟩ := Option.bind_eq_some_iff.mp retained
  refine h.exchange at_ (r := { bank := otherBank q.bank, line := r.line, step := r.step, rep := r.rep }) (by simp) (by simp)
    (by simp) (by simp [slotView]) ?_ rfl (.inl (by rw [own]; rfl)) (by rw [other]; rfl) (by rw [waits]; rfl) ?_ ?_ ?_ ?_ ?_
  · simp [Machine.undoSwap, retained]
  · refine (forall_bank q.bank).mpr ⟨?_, ?_⟩
    · rw [own, Bank.RecordSound]
      simpa [BankState.holdsArticle] using recordOwn
    · rw [other, Bank.RecordSound]
      simp [BankState.holdsArticle, found]
  · refine (forall_bank q.bank).mpr ⟨?_, ?_⟩
    · rw [own, Bank.RetainedSound]
      exact blank
    · rw [other, Bank.RetainedSound]
      simp [found]
  · intro hw
    have check := fits hw
    rw [State.fits, State.article] at check ⊢
    rw [other]
    simpa [Bank.article, found] using check
  · intro hp
    refine (forall_bank q.bank).mpr ⟨?_, ?_⟩
    · rw [own]
      intro a held
      obtain ⟨well, complete⟩ := h.shaped hp _ a held
      exact ⟨well, fun _ => complete (by rw [weaves]; rfl)⟩
    · rw [other]
      exact h.kept_article hp (by rw [waits]; rfl) none nofun _
  · intro hp
    obtain ⟨-, complete⟩ := h.shaped hp _ a found
    obtain ⟨-, -, -, -, picks⟩ := complete (by rw [waits]; rfl)
    rw [State.article, other]
    simp only [Bank.article, withState_fields, withRetained_fields, found, Option.map_some, Option.getD_some]
    exact picks r place

/-- A wrap that refuses its swap, or takes it, stands beside an ARMED bank (R35). -/
theorem armed_of_wrapOutcome {b : BankId} (swaps : s.wrapOutcome b ≠ .plain) :
    (s.bank (otherBank b)).state = .armed := by
  unfold State.wrapOutcome at swaps
  split at swaps
  · assumption
  · exact absurd rfl swaps

/-- A wrap that takes its swap finds that the ARMED article fits (R35). -/
theorem fits_of_wrapOutcome {b : BankId} (swaps : s.wrapOutcome b = .swap) : s.fits (otherBank b) = true := by
  unfold State.wrapOutcome at swaps
  split at swaps
  · split at swaps
    · assumption
    · cases swaps
  · cases swaps

theorem Core.wrapNow (h : Core w p s) (at_ : s.pick.position = some q) : Core w p (wrapNow q s) := by
  unfold Machine.wrapNow
  split
  · exact h.plainWrap at_
  next refused =>
    have armed := armed_of_wrapOutcome (s := s) (b := q.bank) (by rw [refused]; nofun)
    exact (h.refuseSwap armed).plainWrap (by simpa using at_)
  next swaps =>
    have armed := armed_of_wrapOutcome (s := s) (b := q.bank) (by rw [swaps]; nofun)
    exact h.commitSwap at_ (.inr armed) fun _ => fits_of_wrapOutcome swaps

/-- A forward move, with the decision of a frame in hand or taken now (R24, R35). -/
theorem Core.forwardMove (h : Core w p s) (decided : Option Bool)
    (mark : decided = some true → ∀ q, s.pick.position = some q →
      (s.bank (otherBank q.bank)).state = .armed ∧ (w → s.fits (otherBank q.bank) = true)) :
    Core w p (forwardMove decided s) := by
  unfold Machine.forwardMove
  split
  · exact h
  next q at_ =>
    split
    next next =>
      exact h.setPosition at_ rfl fun hp => holds_nextPick (h.complete_weaving hp at_) (h.holds hp q at_) next
    · split
      · exact h.wrapNow at_
      · obtain ⟨armed, fits⟩ := mark rfl q at_
        exact h.commitSwap at_ (.inr armed) fits
      · exact h.plainWrap at_

/-- A backward move (R25, R40). -/
theorem Core.backwardMove (h : Core w p s) : Core w p (backwardMove s) := by
  have back {x : State} {q : Position} (core : Core w p x) (at_ : x.pick.position = some q)
      (same : x.article q.bank = s.article q.bank) : Core w p (Machine.setPosition (s.wrappedBack q) x) :=
    core.setPosition at_ rfl fun hp => by
      have last := holds_lastPick (core.complete_weaving hp at_)
      rw [same] at last ⊢
      exact last
  unfold Machine.backwardMove
  split
  · exact h
  next q at_ =>
    split
    next prev =>
      exact h.setPosition at_ rfl fun hp => holds_prevPick (h.complete_weaving hp at_) (h.holds hp q at_) prev
    · split
      next due =>
        have retired : (s.bank (otherBank q.bank)).state = .retired := by
          simp only [State.undoDue, Bool.and_eq_true, beq_iff_eq] at due
          exact due.2
        split
        next fits => exact h.undoSwap at_ retired fun _ => fits
        · have raised : Core w p (raiseBoth .swapRefused s) :=
            h.congr (by simp [storeView]) (by simp [weaveView]) (by simp [slotView])
          exact back raised (by simpa using at_) (article_congr (by simp) (by simp) _)
      · exact back h at_ rfl

theorem Core.forwardMoves (h : Core w p s) (n : Nat) : Core w p (forwardMoves n s) := by
  induction n generalizing s with
  | zero => exact h
  | succ n ih => exact ih (h.forwardMove none nofun)

theorem Core.backwardMoves (h : Core w p s) (n : Nat) : Core w p (backwardMoves n s) := by
  induction n generalizing s with
  | zero => exact h
  | succ n ih => exact ih h.backwardMove

/-- A history record (R47). -/
theorem Core.addRecord (h : Core w p s) (kind : RecordKind) (f : Option (Fin 8)) (sub : Bool) (n : Nat) :
    Core w p (addRecord kind f sub n s) := by
  refine h.reslot (by simp [storeView]) (by simp [weaveView]) ?_ (by simpa using h.slot) (by simpa using h.reforming)
  unfold Machine.addRecord
  split
  · exact h.sixteen
  · exact List.length_take_le ..

/-- The pick engine at a forward latch (R27). -/
theorem Core.advance (h : Core w p s) (decided : Option Bool) (kind : RecordKind) (f : Option (Fin 8)) (sub : Bool)
    (n : Nat)
    (mark : decided = some true → ∀ q, s.pick.position = some q →
      (s.bank (otherBank q.bank)).state = .armed ∧ (w → s.fits (otherBank q.bank) = true)) :
    Core w p (advance decided kind f sub n s) := by
  refine Core.addRecord (Core.congr (h.forwardMove decided mark) ?_ ?_ ?_) kind f sub n <;>
    simp [storeView, weaveView, slotView]

end Moves

/-! ## Frames -/

section Frames

variable {w p : Prop} {s t : State}

/-- The discard of the pending frame (R108). -/
theorem Core.discard (h : Core w p s) : Core w p (discard s) := by
  refine h.reslot (by simp [storeView]) (by simp [weaveView]) (by simpa using h.sixteen) (.inl (by simp)) ?_
  have flag := h.reforming
  simp [Slot.isReform, flag]

/-- What an assembly start leaves in the slot: a frame of its kind and with its swap mark, which no burst has served
(R109). -/
theorem beginFrame_slot (kind : FrameKind) (q : Position) (swap : Bool) (n : Nat) :
    ∃ d v stage, (beginFrame kind q swap n s).frame.slot = .assembling d v stage ∧ d.kind = kind ∧ d.swap = swap := by
  unfold beginFrame
  dsimp only
  split
  · exact ⟨_, _, _, rfl, rfl, rfl⟩
  · exact ⟨s.describe kind q swap n, _, _, by simp; exact ⟨rfl, rfl⟩, rfl, rfl⟩

/-- An assembly start sets the re-forming flag for a re-form, and leaves it for a forward frame (R23). -/
theorem beginFrame_flag (kind : FrameKind) (q : Position) (swap : Bool) (n : Nat) :
    (beginFrame kind q swap n s).pick.reforming = (s.pick.reforming || kind != .forward) := by
  unfold beginFrame
  dsimp only
  split <;> simp

/-- An assembly start from an EMPTY slot, in WEAVING and REFERENCED (R104, R106, R109). -/
theorem laws_beginFrame (h : Core w p s) (owes : Owes s) (empty : s.frame.slot = .empty)
    (weaves : s.pick.engine = .weaving) (ref : s.shaft.reference = .referenced) (kind : FrameKind) (q : Position)
    (swap : Bool) (n : Nat)
    (mark : swap = true → ∀ x, s.pick.position = some x →
      (s.bank (otherBank x.bank)).state = .armed ∧ (w → s.fits (otherBank x.bank) = true)) :
    Laws w p (beginFrame kind q swap n s) := by
  obtain ⟨d, v, stage, slot, hkind, hswap⟩ := beginFrame_slot (s := s) kind q swap n
  have store : storeView (beginFrame kind q swap n s) = storeView s := by simp [storeView]
  have weave : weaveView (beginFrame kind q swap n s) = weaveView s := by simp [weaveView]
  refine ⟨h.reslot store weave (by simpa using h.sixteen) (.inr ⟨weaves, ref⟩) ?_, owes.congr weave (by simp), ?_⟩
  · rw [beginFrame_flag, h.reforming, empty, slot, Slot.isReform, hkind]
    rfl
  · intro pending x at_
    rw [State.swapPending, slot] at pending
    rw [bank_of_storeView store, fits_of_views store weave]
    exact mark (hswap ▸ pending) x (by simpa using at_)

/-- A forward frame becomes READY (R112). -/
theorem Laws.completeForward (h : Laws w p s) : Laws w p (completeForward s) := by
  obtain ⟨core, owes, marked⟩ := h
  have store : storeView (Machine.completeForward s) = storeView s := by simp [storeView]
  have weave : weaveView (Machine.completeForward s) = weaveView s := by simp [weaveView]
  refine ⟨core.reslot store weave (by simpa using core.sixteen) ?_ ?_, owes.congr weave (by simp),
    marked.congr store weave ?_⟩
  · unfold Machine.completeForward
    split
    next held =>
      have pending := core.slot.resolve_left (by rw [held]; nofun)
      split
      · exact .inr pending
      · exact core.slot
    · exact core.slot
  · have flag := core.reforming
    unfold Machine.completeForward
    split
    next held =>
      split
      next forward => simpa [held, Slot.isReform, forward] using flag
      · exact flag
    · exact flag
  · unfold Machine.completeForward
    split
    next held => split <;> simp [State.swapPending, held]
    · exact id

/-- The start of a forward frame (R104). -/
theorem laws_beginForward (h : Core w p s) (owes : Owes s) (empty : s.frame.slot = .empty)
    (weaves : s.pick.engine = .weaving) (ref : s.shaft.reference = .referenced) (q : Position) (swap : Bool)
    (mark : swap = true → ∀ x, s.pick.position = some x →
      (s.bank (otherBank x.bank)).state = .armed ∧ (w → s.fits (otherBank x.bank) = true)) :
    Laws w p (beginForward q swap s) := by
  have start := laws_beginFrame h owes empty weaves ref .forward q swap (min (s.pick.counter + 1) maxCount) mark
  unfold beginForward
  dsimp only
  split
  · exact start.completeForward
  · exact start

/-- The next forward frame, with its swap decision (R35–R37, R104). -/
theorem Laws.startForward (h : Laws w p s) (ref : s.shaft.reference = .referenced) : Laws w p (startForward s) := by
  obtain ⟨core, owes, marked⟩ := h
  unfold Machine.startForward
  split
  next ready =>
    obtain ⟨weaves, free⟩ := ready
    have empty : s.frame.slot = .empty := by cases held : s.frame.slot <;> simp_all [Slot.isEmpty]
    split
    · exact ⟨core, owes, marked⟩
    next q at_ =>
      split
      · exact laws_beginForward core owes empty weaves ref _ false nofun
      · split
        · exact laws_beginForward core owes empty weaves ref _ false nofun
        next refused =>
          have armed := armed_of_wrapOutcome (s := s) (b := q.bank) (by rw [refused]; nofun)
          exact laws_beginForward (core.refuseSwap armed) (owes.congr (by simp [weaveView]) (by simp)) (by simpa using empty)
            (by simpa using weaves) (by simpa using ref) _ false nofun
        next swaps =>
          refine laws_beginForward core owes empty weaves ref _ true fun _ x named => ?_
          cases at_.symm.trans named
          exact ⟨armed_of_wrapOutcome (by rw [swaps]; nofun), fun _ => fits_of_wrapOutcome swaps⟩
  · exact ⟨core, owes, marked⟩

/-- The latch of a re-form, and the next forward frame (R105, R115). -/
theorem Laws.completeReform (h : Laws w p s) : Laws w p (completeReform s) := by
  unfold Machine.completeReform
  split
  next d v held =>
    split
    next cause _ =>
      obtain ⟨core, owes, -⟩ := h
      obtain ⟨-, ref⟩ := core.slot.resolve_left (by rw [held]; nofun)
      have emptied : (takeReform d cause s).frame.slot = .empty := by simp [takeReform]
      have weave : weaveView (takeReform d cause s) = weaveView s := by simp [weaveView]
      have latched : Core w p (takeReform d cause s) := by
        refine core.reslot (by simp [storeView]) weave ?_ (.inl emptied) ?_
        · have short := core.sixteen
          simp only [takeReform, restartStandstill_fields, raise_keeps]
          unfold addRecord
          split
          · simpa using short
          · exact List.length_take_le ..
        · rw [emptied]
          simp [takeReform, Slot.isReform]
      exact Laws.startForward ⟨latched, owes.congr weave (by simp), marked_of_empty emptied⟩ (by simpa using ref)
    · exact h
  · exact h

/-- A re-form takes the place of whatever is pending (R106). -/
theorem laws_beginReform (h : Core w p s) (owes : Owes s) (ref : s.shaft.reference = .referenced)
    (at_ : s.pick.position ≠ none) (cause : Cause) : Laws w p (beginReform cause s) := by
  have weaves : s.pick.engine = .weaving := by
    cases engine : s.pick.engine with
    | noArticle => exact absurd (h.absent.mp engine) at_
    | weaving => rfl
    | unsynchronised => cases ref.symm.trans (h.lost engine)
  unfold beginReform
  split
  next none => exact absurd none at_
  next q _ =>
    have start := laws_beginFrame h.discard (owes.congr (by simp [weaveView]) (by simp)) (by simp) (by simpa using weaves)
      (by simpa using ref) (.reform cause) q false s.pick.counter nofun
    dsimp only
    split
    · exact start.completeReform
    · exact start

/-- A re-form is started where the shaft is REFERENCED, and owed elsewhere (R106, R107). -/
theorem laws_startReform (h : Core w p s) (weaves : s.pick.engine ≠ .noArticle)
    (free : s.shaft.reference = .referenced → s.frame.owed = none) (cause : Cause) : Laws w p (startReform cause s) := by
  have at_ : s.pick.position ≠ none := fun none => weaves (h.absent.mpr none)
  unfold startReform
  split
  next ref => exact laws_beginReform h (by simp [Owes, free ref, ref]) ref at_ cause
  next away =>
    have empty : s.frame.slot = .empty := h.slot.resolve_right fun ready => away ready.2
    refine ⟨h.reslot rfl rfl h.sixteen (.inl empty) h.reforming, ?_, marked_of_empty empty⟩
    simp [Owes, away, weaves]

end Frames

end Sys2Proof.Proofs
end

section
/-! PROOF. The law of the engine and the banks at every row (O56, O57): the shaft, the commands of the loom link, the
banks and the load queue, the resets. -/

namespace Sys2Proof.Proofs

open Sys2Proof.Machine

/-! ## The shaft and the loom link's commands -/

section Rows

variable {w p : Prop} {s t : State}

/-- Another engine and reference state, another table, with the position and the banks as they were. -/
theorem Core.reengine (h : Core w p s) (store : storeView t = storeView s)
    (position : t.pick.position = s.pick.position)
    (engine : t.pick.engine = .noArticle ↔ s.pick.engine = .noArticle)
    (lost : t.pick.engine = .unsynchronised → t.shaft.reference = .lost) (sixteen : t.pick.history.length ≤ 16)
    (slot : t.frame.slot = .empty ∨ (t.pick.engine = .weaving ∧ t.shaft.reference = .referenced))
    (reforming : t.pick.reforming = t.frame.slot.isReform)
    (fits : w → ∀ q, s.pick.position = some q → t.fits q.bank = true) : Core w p t := by
  have bank := bank_of_storeView store
  simp only [storeView, Prod.mk.injEq] at store
  obtain ⟨-, -, queue⟩ := store
  obtain ⟨alone, beside, loaded, record, retained, four, queued, closing, absent, named, unnamed, -, -, -, -, -, shaped,
    holds⟩ := h
  constructor <;> simp only [State.article, bank, queue, position, engine] at * <;> assumption

/-- The owed re-form rests on the engine and the reference state. -/
theorem Owes.of_eq (h : Owes s) (engine : t.pick.engine = s.pick.engine)
    (reference : t.shaft.reference = s.shaft.reference) (owed : t.frame.owed = s.frame.owed) : Owes t := by
  rw [Owes, owed, engine, reference]
  exact h

/-- While REFERENCED nothing is owed. -/
theorem Owes.free (h : Owes s) (ref : s.shaft.reference = .referenced) : s.frame.owed = none := by
  by_contra owed
  exact (h.mp (Option.isSome_iff_ne_none.mpr owed)).2 ref

/-- Outside REFERENCED, and with no article, no frame is pending. -/
theorem Core.slot_empty (h : Core w p s) (idle : s.pick.engine ≠ .weaving ∨ s.shaft.reference ≠ .referenced) :
    s.frame.slot = .empty :=
  h.slot.resolve_right fun ready => idle.elim (absurd ready.1) (absurd ready.2)

/-- The latch of a READY frame (R113). -/
theorem Laws.takeReady (h : Laws w p s) {d : Descriptor} (ready : s.frame.slot = .ready d) : Laws w p (takeReady d s) := by
  obtain ⟨core, owes, marked⟩ := h
  have emptied : (Machine.takeReady d s).frame.slot = .empty := by
    unfold Machine.takeReady
    dsimp only
    split <;> simp
  refine ⟨?_, owes.of_eq (by simp) (by simp) (by simp), marked_of_empty emptied⟩
  have latched : Core w p { s with
      frame := { s.frame with
        latched := s.frame.staged, staged := .empty, latchedDesc := some d, pickFeeder := .frame d.resolved,
        slot := .empty } } :=
    core.reslot rfl rfl core.sixteen (.inl rfl) (by rw [core.reforming, ready]; rfl)
  have moved := latched.advance (some d.swap) .forward d.resolved d.substituted d.bindCount fun swap =>
    marked (by simpa [State.swapPending, ready] using swap)
  refine moved.congr ?_ ?_ ?_ <;> unfold Machine.takeReady <;> dsimp only <;> split <;>
    simp [storeView, weaveView, slotView]

/-- A LATE latch goes by the swap mark of the frame it abandons (R36, R114). -/
theorem pending_of_decided (swap : s.frame.slot.decided = some true) : s.swapPending = true := by
  unfold Slot.decided at swap
  rw [State.swapPending]
  split at swap <;> simp_all

/-- A LATE latch (R114). -/
theorem Laws.takeLate (h : Laws w p s) : Laws w p (takeLate s) := by
  obtain ⟨core, owes, marked⟩ := h
  have emptied : (Machine.takeLate s).frame.slot = .empty := by simp [Machine.takeLate]
  refine ⟨?_, owes.of_eq (by simp) (by simp) (by simp), marked_of_empty emptied⟩
  have dropped : Core w p (clearFloat { discard s with frame.pickFeeder := .noFrame }) :=
    core.discard.congr rfl rfl rfl
  have moved := dropped.advance s.frame.slot.decided .stale none false 0 fun swap q at_ => by
    obtain ⟨armed, fits⟩ := marked (pending_of_decided swap) q (by simpa using at_)
    exact ⟨armed, fits⟩
  refine moved.congr ?_ ?_ ?_ <;> simp [Machine.takeLate, storeView, weaveView, slotView]

/-- A forward latch (R9). -/
theorem Laws.forwardLatch (h : Laws w p s) : Laws w p (forwardLatch s) := by
  have tracked : Laws w p (latchTracker s) :=
    h.congr (by simp [storeView]) (by simp [weaveView]) (by simp [slotView])
  have latched : Laws w p (latchEngine (latchTracker s)) := by
    unfold latchEngine
    split
    · split
      next ready => exact tracked.takeReady ready
      · exact tracked.takeLate
    · exact tracked
  exact latched.congr (by simp [Machine.forwardLatch, storeView]) (by simp [Machine.forwardLatch, weaveView])
    (by simp [Machine.forwardLatch, slotView])

/-- A reverse latch steps back and re-forms (R10, R29). -/
theorem Laws.reverseLatch (h : Laws w p s) : Laws w p (reverseLatch s) := by
  have cancelled : Laws w p { s with shaft := s.shaft.cancel } := h.congr rfl rfl rfl
  unfold Machine.reverseLatch
  dsimp only
  split
  next weaves =>
    have moved := cancelled.1.backwardMove.congr (t := countDown 1 (backwardMove { s with shaft := s.shaft.cancel }))
      rfl rfl rfl
    refine laws_startReform moved (by simp [weaves]) (fun ref => ?_) _
    simpa using cancelled.2.1.free (by simpa using ref)
  · exact cancelled

/-- The marks of a forward count (R11). -/
theorem Laws.crossMarks (h : Laws w p s) (ref : s.shaft.reference = .referenced) : Laws w p (crossMarks s) := by
  have started (c : Bool) : Laws w p (if c then Machine.startForward s else s) := by
    cases c
    · exact h
    · exact h.startForward ref
  have marks (x : State) (select on off : Bool) (hx : Laws w p x) :
      Laws w p (gateMarks on off (if select then weftSelect x else x)) := by
    refine hx.congr ?_ ?_ ?_ <;> cases select <;> simp [storeView, weaveView, slotView]
  exact marks _ _ _ _ (started _)

/-- A count (R1, R7, R8). -/
theorem Laws.shaftCount (h : Laws w p s) (dir : Direction) : Laws w p (shaftCount dir s) := by
  have counted : Laws w p (countShaft dir s) :=
    h.congr (by simp [storeView]) (by simp [weaveView]) (by simp [slotView])
  unfold Machine.shaftCount
  dsimp only
  split
  next ref =>
    have offset (d : Int) : Laws w p { countShaft dir s with shaft.offset := d } := counted.congr rfl rfl rfl
    cases dir with
    | forward =>
      show Laws w p (countForward _)
      unfold countForward
      split
      · exact ((offset 0).forwardLatch).crossMarks (by simpa using ref)
      · exact (offset _).crossMarks ref
    | backward =>
      show Laws w p (countBackward _)
      unfold countBackward
      dsimp only
      split
      · exact (offset _).reverseLatch
      · exact offset _
  · exact counted

/-- Entry to LOST (R12, R107, R177). -/
theorem Laws.loseShaft (h : Laws w p s) (cause : LossCause) : Laws w p (loseShaft cause s) := by
  obtain ⟨core, owes, -⟩ := h
  have store : storeView (Machine.loseShaft cause s) = storeView s := by simp [storeView]
  have fits (b : BankId) : (Machine.loseShaft cause s).fits b = s.fits b := by
    rw [State.fits, State.fits, State.article, State.article, bank_of_storeView store]
    simp
  by_cases idle : s.pick.engine = .noArticle
  · have empty := core.slot_empty (.inl (by rw [idle]; decide))
    have emptied : (Machine.loseShaft cause s).frame.slot = .empty := by
      simp [Machine.loseShaft, idle, weftOff, empty]
    have flag : (Machine.loseShaft cause s).pick.reforming = s.pick.reforming := by
      simp [Machine.loseShaft, idle, weftOff]
    have engine : (Machine.loseShaft cause s).pick.engine = .noArticle := by simp [Machine.loseShaft, idle, weftOff]
    have owed : (Machine.loseShaft cause s).frame.owed = s.frame.owed := by simp [Machine.loseShaft, idle, weftOff]
    have nothing : s.frame.owed = none := by
      by_contra some
      exact (owes.mp (Option.isSome_iff_ne_none.mpr some)).1 idle
    refine ⟨core.reengine store (by simp) (by rw [engine, idle]) (fun away => by cases engine.symm.trans away)
      (by simpa using core.sixteen)
      (.inl emptied) ?_ fun hw q at_ => by rw [fits]; exact core.fits hw q at_, ?_, marked_of_empty emptied⟩
    · rw [flag, core.reforming, empty, emptied]
    · simp [Owes, engine, owed, nothing]
  · have emptied : (Machine.loseShaft cause s).frame.slot = .empty := by
      simp [Machine.loseShaft, idle, weftOff, followStop]
    have flag : (Machine.loseShaft cause s).pick.reforming = (s.pick.reforming && !s.frame.slot.isReform) := by
      simp [Machine.loseShaft, idle, weftOff, followStop]
    have engine : (Machine.loseShaft cause s).pick.engine = .unsynchronised := by
      simp [Machine.loseShaft, idle, weftOff, followStop]
    have owed : (Machine.loseShaft cause s).frame.owed = some .reform := by
      simp [Machine.loseShaft, idle, weftOff, followStop]
    have lost : (Machine.loseShaft cause s).shaft.reference = .lost := by rw [loseShaft_shaft]
    refine ⟨core.reengine store (by simp) (by simp [engine, idle]) (fun _ => lost) (by simpa using core.sixteen)
      (.inl emptied) ?_ fun hw q at_ => by rw [fits]; exact core.fits hw q at_, ?_, marked_of_empty emptied⟩
    · rw [flag, core.reforming, emptied]
      simp [Slot.isReform]
    · simp [Owes, engine, owed, lost]

/-- The index (R4, R5, R107). -/
theorem Laws.takeIndex (h : Laws w p s) : Laws w p (takeIndex s) := by
  obtain ⟨core, owes, marked⟩ := h
  unfold Machine.takeIndex
  split
  next away =>
    have empty := core.slot_empty (.inr (by rw [away]; decide))
    have found (o : Option Cause) : Core w p
        { s with
          shaft := { s.shaft with angle := 0, offset := s.shaft.timing.offsetOf 0, reference := .referenced }
          frame := { s.frame with owed := o } } :=
      core.reengine rfl rfl Iff.rfl (fun stands => by cases away.symm.trans (core.lost stands)) core.sixteen (.inl empty)
        core.reforming core.fits
    unfold startOwed
    split
    · exact ⟨found s.frame.owed, by simp_all [Owes], marked_of_empty empty⟩
    next cause held =>
      have weaves : s.pick.engine ≠ .noArticle := (owes.mp (Option.isSome_iff_exists.mpr ⟨cause, held⟩)).1
      exact laws_startReform (found none) weaves (fun _ => rfl) cause
  · dsimp only
    split
    · exact Laws.congr ⟨core, owes, marked⟩ rfl rfl rfl
    · exact Laws.loseShaft ⟨core, owes, marked⟩ _
  · exact ⟨core, owes, marked⟩

/-- A command that has moved the position (R42). -/
theorem laws_finishMove (h : Core w p t) (owes : Owes s) (at_ : s.pick.position ≠ none) (core : Core w p s)
    (engine : t.pick.engine = s.pick.engine) (reference : t.shaft.reference = s.shaft.reference)
    (owed : t.frame.owed = s.frame.owed) (cause : Cause) : Laws w p (finishMove cause t) := by
  have moved : Core w p { t with shaft := t.shaft.cancel } := h.congr rfl rfl rfl
  refine laws_startReform moved ?_ (fun ref => ?_) cause
  · exact fun idle => at_ (core.absent.mp (engine ▸ idle))
  · exact owed.trans (owes.free (reference ▸ ref))

/-- The width check against the table a commit takes (R135, R136). -/
theorem fits_takeTable (h : Core w p s) {x : HarnessTable} (valid : x.failure s.weavingWidth = none) (q : Position)
    (at_ : s.pick.position = some q) : (takeTable x s).fits q.bank = true := by
  have weaves : s.weaves = true := by
    have stands := h.ne_noArticle at_
    cases engine : s.pick.engine <;> simp_all [State.weaves]
  have width : s.weavingWidth = some (s.article q.bank).width := by simp [State.weavingWidth, weaves, at_]
  rw [width] at valid
  have same : (takeTable x s).article q.bank = s.article q.bank := article_congr (by simp) (by simp) _
  rw [State.fits, same]
  simpa using fits_of_valid x valid

/-- COMMIT HARNESS (R136). -/
theorem Laws.commitTable (h : Laws w p s) (k : Link) {x : HarnessTable} (valid : x.failure s.weavingWidth = none) :
    Laws w p (commitTable k x s) := by
  obtain ⟨core, owes, marked⟩ := h
  have taken : Core w p (takeTable x s) :=
    core.reengine (by simp [storeView]) (by simp) (by simp) (by simpa using core.lost) (by simpa using core.sixteen)
      (by simpa using core.slot) (by simpa using core.reforming) fun _ => fits_takeTable core valid
  have raised {y : State} (hy : Laws w p y) : Laws w p (raise (otherLink k) .claimFreed y) :=
    hy.congr (by simp [storeView]) (by simp [weaveView]) (by simp [slotView])
  rw [commitTable_eq]
  refine raised ?_
  split
  next weaves =>
    refine laws_startReform taken ?_ (fun ref => by simpa using owes.free (by simpa using ref)) .reform
    simpa [State.weaves] using weaves
  next idle =>
    have engine : s.pick.engine = .noArticle := by simpa [State.weaves] using idle
    have empty := core.slot_empty (.inl (by rw [engine]; decide))
    exact ⟨taken, owes.of_eq (by simp) (by simp) (by simp), marked_of_empty (by simpa using empty)⟩

/-- LEVEL ON and LEVEL OFF (R68). -/
theorem Laws.setLevel (h : Laws w p s) (on : Bool) : Laws w p (setLevel on s) := by
  have flagged : Laws w p { s with frame.level := on } := h.congr rfl rfl rfl
  rw [setLevel_eq]
  split
  next weaves =>
    refine laws_startReform flagged.1 ?_ (fun ref => flagged.2.1.free ref) .reform
    simpa [State.weaves] using weaves
  · exact flagged

/-- RESYNC (R178). -/
theorem Laws.resyncShaft (h : Laws w p s) (away : s.pick.engine = .unsynchronised) : Laws w p (resyncShaft s) := by
  obtain ⟨core, owes, -⟩ := h
  have empty := core.slot_empty (.inl (by rw [away]; decide))
  have lost := core.lost away
  have fits (b : BankId) : (Machine.resyncShaft s).fits b = s.fits b := by
    simp [Machine.resyncShaft, State.fits, State.article, State.bank]
  refine ⟨core.reengine rfl (by simp [Machine.resyncShaft]) (by simp [Machine.resyncShaft, away])
    (by simp [Machine.resyncShaft]) (by simpa [Machine.resyncShaft] using core.sixteen)
    (.inl (by simpa [Machine.resyncShaft] using empty)) (by simpa [Machine.resyncShaft] using core.reforming)
    fun hw q at_ => by rw [fits]; exact core.fits hw q at_, ?_, marked_of_empty (by simpa [Machine.resyncShaft] using empty)⟩
  have owed : s.frame.owed.isSome = true := owes.mpr (by simp [away, lost])
  simp [Owes, Machine.resyncShaft, owed]

end Rows

/-! ## UNLOAD and the install -/

section Weaving

variable {w p : Prop} {s t : State}

/-- A bank after UNLOAD is being loaded as before, and none of WEAVING, ARMED and RETIRED (R46). -/
theorem unloaded_state (x : Bank) :
    x.unloaded.state.beingLoaded = x.state.beingLoaded ∧ (x.unloaded.state = .closing → x.state = .closing) ∧
      x.unloaded.state ≠ .weaving ∧ x.unloaded.state ≠ .armed ∧ x.unloaded.state ≠ .retired := by
  unfold Bank.unloaded
  cases h : x.state <;> simp [h, BankState.beingLoaded]

/-- A bank after UNLOAD keeps its record but for the retained position (R46). -/
theorem unloaded_sound (x : Bank) (record : x.RecordSound) (retained : x.RetainedSound) :
    x.unloaded.RecordSound ∧ x.unloaded.RetainedSound ∧ (x.ArticleSound → x.unloaded.ArticleSound) := by
  rw [Bank.RecordSound] at record
  rw [Bank.RetainedSound] at retained
  unfold Bank.unloaded
  cases h : x.state with
  | retired =>
    rw [h] at record
    refine ⟨by simpa [Bank.RecordSound, BankState.holdsArticle] using record,
      by rw [Bank.RetainedSound]; cases r : x.record <;> simp [r], fun sound a' kept => ?_⟩
    obtain ⟨a, found, rfl⟩ := Option.map_eq_some_iff.mp kept
    obtain ⟨well, complete⟩ := sound a found
    exact ⟨well, fun _ => complete_withRetained (complete (by rw [h]; rfl)) none nofun⟩
  | weaving | armed =>
    rw [h] at record retained
    refine ⟨record, retained, fun sound a found => ?_⟩
    obtain ⟨well, complete⟩ := sound a found
    exact ⟨well, fun _ => complete (by rw [h]; rfl)⟩
  | empty | opened | closing | ready =>
    exact ⟨record, retained, id⟩

/-- UNLOAD (R46, R107). -/
theorem Laws.unloadArticle (h : Laws w p s) : Laws w p (unloadArticle s) := by
  obtain ⟨core, owes, -⟩ := h
  have bank (b : BankId) : (Machine.unloadArticle s).bank b = (s.bank b).unloaded := by cases b <;> simp
  have sound (b : BankId) := unloaded_sound (s.bank b) (core.record b) (core.retained b)
  have state (b : BankId) := unloaded_state (s.bank b)
  have flag : (Machine.unloadArticle s).pick.reforming = (s.pick.reforming && !s.frame.slot.isReform) := by
    simp [Machine.unloadArticle, standstillOff, weftOff, followStop]
  have history : (Machine.unloadArticle s).pick.history = s.pick.history := by
    simp [Machine.unloadArticle, standstillOff, weftOff, followStop]
  refine ⟨?_, by simp [Owes], marked_of_empty (by simp)⟩
  exact
    { alone := fun b weaves => by rw [bank] at weaves; exact absurd weaves (state b).2.2.1
      beside := fun b stands => by
        rw [bank] at stands
        exact absurd stands (by simpa using (state b).2.2.2)
      loaded := fun b => by rw [bank, bank, (state _).1, (state _).1]; exact core.loaded b
      record := fun b => by rw [bank]; exact (sound b).1
      retained := fun b => by rw [bank]; exact (sound b).2.1
      four := by simpa using core.four
      queued := fun b e queued same => by rw [bank, (state b).1]; exact core.queued b e (by simpa using queued) same
      closing := fun b closes => by
        rw [bank] at closes
        simpa using core.closing b ((state b).2.1 closes)
      absent := by simp
      named := by simp
      unnamed := fun _ b => by rw [bank]; exact (state b).2.2.1
      lost := by simp
      sixteen := by rw [history]; exact core.sixteen
      slot := by simp
      reforming := by rw [flag, core.reforming]; simp [Slot.isReform]
      fits := by simp
      shaped := fun hp b => by rw [bank]; exact (sound b).2.2 (core.shaped hp b)
      holds := by simp }

/-- With a READY bank beside a bank that does not weave, no article weaves (R39). -/
theorem Core.idle (h : Core w p s) {b : BankId} (ready : (s.bank b).state = .ready)
    (alone : (s.bank (otherBank b)).state ≠ .weaving) : s.pick.position = none := by
  have still : ∀ k, (s.bank k).state ≠ .weaving := (forall_bank b).mpr ⟨by rw [ready]; decide, alone⟩
  by_contra at_
  obtain ⟨q, named⟩ := Option.ne_none_iff_exists'.mp at_
  exact still _ (h.named q named)

/-- The install of a READY bank (R41, R152). -/
theorem Laws.install (h : Laws w p s) {b : BankId} (ready : (s.bank b).state = .ready)
    (alone : (s.bank (otherBank b)).state ≠ .weaving) (fits : s.fits b = true) : Laws w p (install b s) := by
  obtain ⟨core, owes, -⟩ := h
  have absent := core.idle ready alone
  have engine : s.pick.engine = .noArticle := core.absent.mpr absent
  have empty := core.slot_empty (.inl (by rw [engine]; decide))
  have nothing : s.frame.owed = none := by
    by_contra some
    exact (owes.mp (Option.isSome_iff_ne_none.mpr some)).1 engine
  obtain ⟨-, weaves, position, -, -, -, -, -, -, live, -, own, other⟩ := weavingAtFirst_fields b s
  have slot : (weavingAtFirst b s).frame.slot = s.frame.slot := rfl
  have queue : (weavingAtFirst b s).store.queue = s.store.queue := by cases b <;> rfl
  have record := core.record b
  have retained := core.retained b
  rw [Bank.RecordSound, ready] at record
  rw [Bank.RetainedSound, ready] at retained
  have complete (hp : p) : (s.article b).Complete := core.complete hp (by rw [ready]; rfl) (by rw [ready]; decide)
  have free : ¬ ((s.bank (otherBank b)).state = .armed ∨ (s.bank (otherBank b)).state = .retired) := fun stands => by
    have weaves := core.beside (otherBank b) stands
    rw [otherBank_otherBank, ready] at weaves
    cases weaves
  have installed : Core w p (weavingAtFirst b s) :=
    { alone := (forall_bank b).mpr ⟨fun _ => by rw [other]; exact alone, fun weaves => absurd (other ▸ weaves) alone⟩
      beside := (forall_bank b).mpr ⟨fun stands => (by rw [own] at stands; rcases stands with e | e <;> cases e),
        fun stands => absurd (other ▸ stands) free⟩
      loaded := (forall_bank b).mpr ⟨fun loads => (by rw [own] at loads; cases loads), fun _ => by
        rw [otherBank_otherBank, own]; rfl⟩
      record := (forall_bank b).mpr ⟨by rw [own]; exact record, by rw [other]; exact core.record _⟩
      retained := (forall_bank b).mpr ⟨by rw [own]; exact retained, by rw [other]; exact core.retained _⟩
      four := by rw [queue]; exact core.four
      queued := (forall_bank b).mpr ⟨fun e queued same => (by
          have loads := core.queued b e (queue ▸ queued) same
          rw [ready] at loads
          cases loads),
        fun e queued same => by rw [other]; exact core.queued _ e (queue ▸ queued) same⟩
      closing := (forall_bank b).mpr ⟨fun closes => (by rw [own] at closes; cases closes), fun closes => by
        rw [queue]
        exact core.closing _ (other ▸ closes)⟩
      absent := by rw [weaves, position]; split <;> simp
      named := fun q named => by cases position.symm.trans named; rw [own]; rfl
      unnamed := fun none => by cases position.symm.trans none
      lost := fun away => by
        rw [weaves] at away
        split at away
        next lost => exact lost
        · cases away
      sixteen := core.sixteen
      slot := .inl empty
      reforming := by rw [slot, empty]; rfl
      fits := fun hw q named => by
        cases position.symm.trans named
        rw [State.fits, live, State.article, own]
        exact fits
      shaped := fun hp => (forall_bank b).mpr ⟨by
          rw [own]
          intro a found
          obtain ⟨well, complete⟩ := core.shaped hp b a found
          exact ⟨well, fun _ => complete (by rw [ready]; rfl)⟩,
        by rw [other]; exact core.shaped hp _⟩
      holds := fun hp q named => by
        cases position.symm.trans named
        rw [State.article, own]
        exact holds_first (complete hp) }
  rw [install_eq]
  refine laws_startReform installed ?_ (fun _ => nothing) .reform
  rw [weaves]
  split <;> decide

end Weaving

/-! ## The load side of the banks -/

section Banks

variable {w p : Prop} {s t : State} {b : BankId}

/-- What a command does to a bank that does not weave: its new state and record, with the checks that let it in. -/
structure Reloads (p : Prop) (b : BankId) (s t : State) : Prop where
  weave : weaveView t = weaveView s
  slot : slotView t = slotView s
  other : t.bank (otherBank b) = s.bank (otherBank b)
  old : (s.bank b).state ≠ .weaving
  new : (t.bank b).state ≠ .weaving
  unmarked : (s.bank b).state = .armed → s.swapPending = false
  beside : (t.bank b).state = .armed ∨ (t.bank b).state = .retired → (s.bank (otherBank b)).state = .weaving
  loaded : (t.bank b).state.beingLoaded = true → (s.bank (otherBank b)).state.beingLoaded = false
  record : (t.bank b).RecordSound
  retained : (t.bank b).RetainedSound
  four : t.store.queue.length ≤ 4
  queued : ∀ e ∈ t.store.queue, (t.bank e.bank).state.beingLoaded = true
  closing : (t.bank b).state = .closing ∨ (s.bank (otherBank b)).state = .closing → t.store.queue ≠ []
  shaped : p → (t.bank b).ArticleSound

/-- A command on a bank that does not weave keeps the laws. -/
theorem Laws.reload (h : Laws w p s) (r : Reloads p b s t) : Laws w p t := by
  obtain ⟨core, owes, marked⟩ := h
  have weave := r.weave
  have slot := r.slot
  simp only [weaveView, slotView, Prod.mk.injEq] at weave slot
  refine ⟨core.load b r.weave r.slot r.other r.old r.new r.beside r.loaded r.record r.retained r.four r.queued r.closing
    r.shaped, owes.of_eq weave.1 weave.2.2.1 slot.2.2.2, fun pending q at_ => ?_⟩
  have pending : s.swapPending = true := by
    rw [State.swapPending] at pending ⊢
    rwa [slot.1] at pending
  have at_ : s.pick.position = some q := weave.2.1 ▸ at_
  have weaves := core.named q at_
  obtain ⟨armed, -⟩ := marked pending q at_
  have which : b = q.bank ∨ b = otherBank q.bank := by cases b <;> cases hq : q.bank <;> simp
  rcases which with same | same
  · exact absurd (same ▸ weaves) r.old
  · cases (r.unmarked (same ▸ armed)).symm.trans pending

/-- The same, for a command that leaves the load queue. -/
theorem reloads_of_queue (core : Core w p s) (queue : t.store.queue = s.store.queue)
    (weave : weaveView t = weaveView s) (slot : slotView t = slotView s)
    (other : t.bank (otherBank b) = s.bank (otherBank b)) (old : (s.bank b).state ≠ .weaving)
    (new : (t.bank b).state ≠ .weaving) (unmarked : (s.bank b).state = .armed → s.swapPending = false)
    (beside : (t.bank b).state = .armed ∨ (t.bank b).state = .retired → (s.bank (otherBank b)).state = .weaving)
    (loaded : (t.bank b).state.beingLoaded = true → (s.bank (otherBank b)).state.beingLoaded = false)
    (record : (t.bank b).RecordSound) (retained : (t.bank b).RetainedSound)
    (drained : (s.bank b).state.beingLoaded = true → (t.bank b).state.beingLoaded = true ∨ s.store.queue = [])
    (closing : (t.bank b).state = .closing → s.store.queue ≠ []) (shaped : p → (t.bank b).ArticleSound) :
    Reloads p b s t where
  weave := weave
  slot := slot
  other := other
  old := old
  new := new
  unmarked := unmarked
  beside := beside
  loaded := loaded
  record := record
  retained := retained
  four := by rw [queue]; exact core.four
  queued e queued := by
    rw [queue] at queued
    have loads := core.queued e.bank e queued rfl
    have which : e.bank = b ∨ e.bank = otherBank b := by cases b <;> cases he : e.bank <;> simp
    rcases which with same | same
    · rw [same] at loads ⊢
      refine (drained loads).resolve_right fun empty => ?_
      rw [empty] at queued
      cases queued
    · rw [same] at loads ⊢
      rw [other]
      exact loads
  closing := by
    rw [queue]
    rintro (own | other)
    · exact closing own
    · exact core.closing _ other
  shaped := shaped

/-- A fresh record is well shaped (R146). -/
theorem wellShaped_fresh (width height : Nat) (f : Face) (positive : 1 ≤ height) :
    (Article.fresh width height f).WellShaped :=
  ⟨positive, List.length_replicate, fun n => by simp [Article.fresh]⟩

/-- The edits of a record keep its shape and its retained position (R156–R158). -/
theorem wellShaped_of_edits {a a' : Article} (edits : EditsArticle a a') :
    a'.retained = a.retained ∧ (a.WellShaped → a'.WellShaped) := by
  obtain ⟨x, edit | edit | edit⟩ := edits
  · unfold defineScheme at edit
    split at edit
    · cases edit
    next n _ =>
      split at edit
      · cases edit
      · split at edit
        · cases edit
        next steps _ =>
          cases edit
          refine ⟨rfl, fun ⟨height, lines, schemes⟩ => ⟨height, lines, fun m => ?_⟩⟩
          by_cases same : n = m
          · subst same
            by_cases empty : steps = [] <;> simp [empty]
          · simpa [Vector.getElem_set, Fin.val_inj, same] using schemes m
  · unfold defineWeave at edit
    split at edit
    · cases edit
    · split at edit
      · cases edit
      · split at edit
        · cases edit
        · cases edit
          exact ⟨rfl, id⟩
  · unfold defineFeeders at edit
    split at edit
    · cases edit
    · split at edit
      · cases edit
      · cases edit
        exact ⟨rfl, id⟩

/-- A record that is being loaded keeps no position (R39). -/
theorem Core.not_retained (h : Core w p s) (other : (s.bank b).state ≠ .retired) {a : Article}
    (found : (s.bank b).record = some a) : a.retained = none := by
  have retained := h.retained b
  rw [Bank.RetainedSound, found, beq_eq_false_iff_ne.mpr other] at retained
  simpa using retained

/-- The close validation makes a well-shaped record of no retained position READY and complete, or leaves it OPEN
(R150). -/
theorem closed_sound {x : Bank} {a : Article} (found : x.record = some a) (blank : a.retained = none) :
    x.closed.record = some a ∧ (x.closed.state = .ready ∨ x.closed.state = .opened) ∧ x.closed.RecordSound ∧
      x.closed.RetainedSound ∧ (a.WellShaped → x.closed.ArticleSound) := by
  have article : x.article = a := by rw [Bank.article, found]; rfl
  have record : x.closed.record = some a := found
  by_cases valid : a.validate = .ok
  · have ready : x.closed.state = .ready := by simp [Bank.closed, article, valid]
    refine ⟨record, .inl ready, by rw [Bank.RecordSound, record, ready]; rfl,
      by rw [Bank.RetainedSound, record, ready]; simp [blank], fun well y held => ?_⟩
    cases record.symm.trans held
    exact ⟨well, fun _ => ⟨well.1, well.2.1, valid, well.2.2, by rw [blank]; nofun⟩⟩
  · have opened : x.closed.state = .opened := by simp [Bank.closed, article, valid]
    refine ⟨record, .inr opened, by rw [Bank.RecordSound, record, opened]; rfl,
      by rw [Bank.RetainedSound, record, opened]; simp [blank], fun well y held => ?_⟩
    cases record.symm.trans held
    exact ⟨well, fun closed => by rw [opened] at closed; cases closed⟩

/-- A bank of which nothing is left (R154). -/
theorem reset_sound : Bank.reset.RecordSound ∧ Bank.reset.RetainedSound ∧ Bank.reset.ArticleSound :=
  ⟨rfl, rfl, nofun⟩

/-- OPEN ARTICLE (R147). -/
theorem Laws.openBank (h : Laws w p s) (width height : Nat) (f : Face) (free : Openable b s) (positive : 1 ≤ height) :
    Laws w p (emptyReadback b
      (s.setBank b { state := .opened, record := some (Article.fresh width height f), closeResult := .none })) := by
  obtain ⟨states, notOpened, notClosing⟩ := free
  refine h.reload (b := b) (reloads_of_queue h.1 (by simp) (by simp [weaveView]) (by simp [slotView]) (by simp) ?_ ?_ ?_ ?_ ?_
    ?_ ?_ ?_ ?_ ?_) <;> try rw [bank_emptyReadback, bank_setBank]
  · rcases states with e | e | e <;> rw [e] <;> decide
  · nofun
  · intro armed
    rcases states with e | e | e <;> cases e.symm.trans armed
  · nofun
  · intro _
    cases e : (s.bank (otherBank b)).state <;> simp_all [BankState.beingLoaded]
  · rfl
  · rfl
  · exact fun _ => .inl rfl
  · nofun
  · rintro - a ⟨⟩
    exact ⟨wellShaped_fresh width height f positive, nofun⟩

/-- REOPEN (R148). -/
theorem Laws.reopen (h : Laws w p s)
    (closed : (s.bank b).state = .ready ∨ (s.bank b).state = .retired ∨
      ((s.bank b).state = .armed ∧ s.swapPending = false))
    (free : (s.bank (otherBank b)).state.beingLoaded = false) :
    Laws w p (raiseIf ((s.bank b).state == .armed) .design .disarmed
      (s.setBank b { ((s.bank b).withRetained none) with state := .opened, closeResult := .none })) := by
  have bank (k : BankId) (x : State) (c : Bool) : (raiseIf c .design .disarmed x).bank k = x.bank k :=
    bank_congr (by simp) (by simp) k
  have stands : (s.bank b).state ≠ .empty := by rcases closed with e | e | ⟨e, -⟩ <;> rw [e] <;> decide
  have record := h.1.kept_record stands
  obtain ⟨a, found⟩ := Option.isSome_iff_exists.mp record
  refine h.reload (b := b) (reloads_of_queue h.1 (by simp) (by simp [weaveView]) (by simp [slotView]) (by simp [bank]) ?_ ?_ ?_
    ?_ ?_ ?_ ?_ ?_ ?_ ?_) <;> try rw [bank, bank_setBank]
  · rcases closed with e | e | ⟨e, -⟩ <;> rw [e] <;> decide
  · nofun
  · intro armed
    rcases closed with e | e | ⟨-, e⟩
    · cases e.symm.trans armed
    · cases e.symm.trans armed
    · exact e
  · nofun
  · exact fun _ => free
  · simp [Bank.RecordSound, found, BankState.holdsArticle]
  · rw [Bank.RetainedSound]
    simp [found]
  · exact fun _ => .inl rfl
  · nofun
  · intro hp a' kept
    obtain ⟨x, held, rfl⟩ := Option.map_eq_some_iff.mp kept
    exact ⟨(h.1.shaped hp b x held).1, nofun⟩

/-- DEFINE SCHEME, DEFINE WEAVE and DEFINE FEEDERS (R156–R158). -/
theorem Laws.define (h : Laws w p s) {a : Article} (opened : (s.bank b).state = .opened)
    (edits : EditsArticle (s.article b) a) : Laws w p (s.setBank b { s.bank b with record := some a }) := by
  obtain ⟨x, found⟩ := Option.isSome_iff_exists.mp (h.1.kept_record (b := b) (by rw [opened]; decide))
  have article : s.article b = x := by rw [State.article, Bank.article, found]; rfl
  have blank := h.1.not_retained (b := b) (by rw [opened]; decide) found
  obtain ⟨retained, shape⟩ := wellShaped_of_edits edits
  rw [article] at retained shape
  refine h.reload (b := b) (reloads_of_queue h.1 (by simp) (by simp [weaveView]) (by simp [slotView]) (by simp) ?_ ?_ ?_ ?_ ?_ ?_
    ?_ ?_ ?_ ?_) <;> try rw [bank_setBank]
  · rw [opened]; decide
  · simp [opened]
  · simp [opened]
  · simp [opened]
  · exact fun _ => h.1.loaded b (by rw [opened]; rfl)
  · simp [Bank.RecordSound, opened, BankState.holdsArticle]
  · simp [Bank.RetainedSound, opened, retained, blank]
  · exact fun _ => .inl (by simp [opened, BankState.beingLoaded])
  · simp [opened]
  · rintro hp y ⟨⟩
    exact ⟨shape (h.1.shaped hp b x found).1, fun closed => by simp [opened, BankState.beingLoaded] at closed⟩

/-- A bank takes another state with the record it has: ARM, DISARM and a CLOSE ARTICLE that waits (R149, R151, R153). -/
theorem Laws.withState (h : Laws w p s) (x : BankState) (old : (s.bank b).state ≠ .weaving) (new : x ≠ .weaving)
    (stands : (s.bank b).state ≠ .empty) (holds : x ≠ .empty) (notRetired : (s.bank b).state ≠ .retired)
    (stays : x ≠ .retired) (unmarked : (s.bank b).state = .armed → s.swapPending = false)
    (beside : x = .armed → (s.bank (otherBank b)).state = .weaving)
    (loads : x.beingLoaded = (s.bank b).state.beingLoaded) (closing : x = .closing → s.store.queue ≠ []) :
    Laws w p (s.setBank b ((s.bank b).withState x)) := by
  have record := h.1.kept_record stands
  have retained := h.1.retained b
  rw [Bank.RetainedSound, beq_eq_false_iff_ne.mpr notRetired] at retained
  refine h.reload (b := b) (reloads_of_queue h.1 (by simp) (by simp [weaveView]) (by simp [slotView]) (by simp) old ?_ unmarked ?_
    ?_ ?_ ?_ ?_ ?_ ?_) <;> try rw [bank_setBank]
  · exact new
  · exact fun own => own.elim beside fun e => absurd e stays
  · intro own
    exact h.1.loaded b (by rw [← loads]; exact own)
  · rw [Bank.RecordSound]
    cases x <;> simp_all [BankState.holdsArticle]
  · rw [Bank.RetainedSound]
    exact retained.trans (beq_eq_false_iff_ne.mpr stays).symm
  · intro own
    exact .inl (loads.trans own)
  · exact closing
  · intro hp a found
    obtain ⟨well, complete⟩ := h.1.shaped hp b a found
    exact ⟨well, fun closed => complete (loads ▸ closed)⟩

/-- A bank is discarded (R154). -/
theorem Laws.discardBank (h : Laws w p s) (old : (s.bank b).state ≠ .weaving)
    (unmarked : (s.bank b).state = .armed → s.swapPending = false)
    (drained : (s.bank b).state.beingLoaded = true → s.store.queue = []) :
    Laws w p (emptyReadback b (s.setBank b Bank.reset)) := by
  obtain ⟨record, retained, shaped⟩ := reset_sound
  refine h.reload (b := b) (reloads_of_queue h.1 (by simp) (by simp [weaveView]) (by simp [slotView]) (by simp) old ?_ unmarked ?_
    ?_ ?_ ?_ ?_ ?_ ?_) <;> try rw [bank_emptyReadback, bank_setBank]
  · nofun
  · nofun
  · nofun
  · exact record
  · exact retained
  · exact fun own => .inr (drained own)
  · nofun
  · exact fun _ => shaped

/-- The load queue is changed, with every entry that stays or joins of the bank that is OPEN (R159, R162). -/
theorem Laws.queue (h : Laws w p s) (opened : (s.bank b).state = .opened) (store : ∀ k, t.bank k = s.bank k)
    (weave : weaveView t = weaveView s) (slot : slotView t = slotView s) (four : t.store.queue.length ≤ 4)
    (queued : ∀ e ∈ t.store.queue, e.bank = b) : Laws w p t := by
  have other := h.1.loaded b (by rw [opened]; rfl)
  refine h.reload (b := b)
    { weave := weave, slot := slot, other := store _, four := four, old := by rw [opened]; decide, new := ?_
      unmarked := by rw [opened]; nofun, beside := ?_, loaded := ?_, record := ?_, retained := ?_, queued := ?_
      closing := ?_, shaped := ?_ } <;> try rw [store]
  · rw [opened]; decide
  · rw [opened]; rintro (e | e) <;> cases e
  · exact h.1.loaded b
  · exact h.1.record b
  · exact h.1.retained b
  · intro e held
    rw [queued e held, store, opened]
    rfl
  · rw [opened]
    rintro (e | e)
    · cases e
    · rw [e] at other
      cases other
  · exact fun hp => h.1.shaped hp b

/-- The close validation of a bank whose queue has drained (R150, R161). -/
theorem Laws.close (h : Laws w p s) (loaded : (s.bank b).state.beingLoaded = true) {x : Bank} {a : Article}
    (found : x.record = some a) (blank : a.retained = none) (shape : p → a.WellShaped) (queue : t.store.queue = [])
    (own : t.bank b = x.closed) (other : t.bank (otherBank b) = s.bank (otherBank b))
    (weave : weaveView t = weaveView s) (slot : slotView t = slotView s) : Laws w p t := by
  obtain ⟨-, state, record, retained, shaped⟩ := closed_sound found blank
  have alone := h.1.loaded b loaded
  refine h.reload (b := b)
    { weave := weave, slot := slot, other := other, four := by rw [queue]; exact Nat.zero_le _
      old := fun e => ?_, new := ?_, unmarked := fun e => ?_, beside := ?_, loaded := fun _ => alone, record := own ▸ record
      retained := own ▸ retained, queued := fun e held => ?_, closing := ?_, shaped := fun hp => own ▸ shaped (shape hp) }
  · rw [e] at loaded; cases loaded
  · rw [own]; rcases state with e | e <;> rw [e] <;> decide
  · rw [e] at loaded; cases loaded
  · rw [own]; rcases state with e | e <;> rw [e] <;> rintro (e | e) <;> cases e
  · rw [queue] at held; cases held
  · rw [own]
    rintro (closes | closes)
    · rcases state with e | e <;> cases e.symm.trans closes
    · rw [closes] at alone; cases alone

/-- A record whose line table has taken a line stays well shaped, and its picks are those of its scheme (R161). -/
theorem wellShaped_line {a : Article} (well : a.WellShaped) (line : Nat) (n : Fin 8) :
    ({ a with lines := a.lines.set line (some n) } : Article).WellShaped :=
  ⟨well.1, (List.length_set ..).trans well.2.1, well.2.2⟩

/-- The bank whose line has been written (R161). -/
def lineWritten (e : QueueEntry) (x : Bank) : Bank :=
  { x with record := x.record.map fun a => { a with lines := a.lines.set e.line (some e.scheme) } }

/-- The write of a queue entry ends at its bank: marked, and closed where a CLOSING bank has its queue drained (R161). -/
theorem finishEntry_bank (e : QueueEntry) (rest : List QueueEntry) (s : State) :
    (finishEntry e rest s).bank e.bank =
      (if (s.bank e.bank).state = .closing ∧ rest = [] then (lineWritten e (s.bank e.bank)).closed
        else lineWritten e (s.bank e.bank)) ∧
    (finishEntry e rest s).bank (otherBank e.bank) = s.bank (otherBank e.bank) ∧
    (finishEntry e rest s).store.queue = rest ∧ weaveView (finishEntry e rest s) = weaveView s ∧
    slotView (finishEntry e rest s) = slotView s := by
  have raised (c : Bool) (k : BankId) (x : State) : (raiseIf c .design .queueSpace x).bank k = x.bank k :=
    bank_congr (by simp) (by simp) k
  have closed (x : State) (b : BankId) :
      (finishClose b x).bank b = (x.bank b).closed ∧ (finishClose b x).bank (otherBank b) = x.bank (otherBank b) := by
    cases b <;> exact ⟨rfl, rfl⟩
  obtain ⟨b, line, scheme, cells, n⟩ := e
  unfold finishEntry
  dsimp only
  split
  · simp only [closed, raised]
    refine ⟨?_, ?_, by simp, by simp [weaveView], by simp [slotView]⟩ <;> cases b <;> rfl
  · simp only [raised]
    refine ⟨?_, ?_, by simp, by simp [weaveView], by simp [slotView]⟩ <;> cases b <;> rfl

/-- A completed burst of the load queue (R161). -/
theorem Laws.advanceQueue (h : Laws w p s) : Laws w p (advanceQueue s) := by
  unfold Machine.advanceQueue
  split
  · exact h
  next e rest queue =>
    have queued (x : QueueEntry) (held : x ∈ s.store.queue) := h.1.queued x.bank x held rfl
    have loads : (s.bank e.bank).state.beingLoaded = true := queued e (by rw [queue]; exact List.mem_cons_self)
    have four := h.1.four
    rw [queue, List.length_cons] at four
    have alone := h.1.loaded e.bank loads
    have ours (x : QueueEntry) (held : x ∈ rest) : x.bank = e.bank := by
      have loads' := queued x (by rw [queue]; exact List.mem_cons_of_mem _ held)
      by_contra ne
      have which : x.bank = otherBank e.bank := by cases hx : x.bank <;> cases he : e.bank <;> simp_all
      rw [which, alone] at loads'
      cases loads'
    have old : (s.bank e.bank).state ≠ .weaving := fun weaves => by rw [weaves] at loads; cases loads
    have notArmed : (s.bank e.bank).state ≠ .armed := fun armed => by rw [armed] at loads; cases loads
    have notRetired : (s.bank e.bank).state ≠ .retired := fun retired => by rw [retired] at loads; cases loads
    have stands : (s.bank e.bank).state ≠ .empty := fun empty => by rw [empty] at loads; cases loads
    have notClosing : (s.bank (otherBank e.bank)).state ≠ .closing := fun closes => by rw [closes] at alone; cases alone
    split
    · exact h.reload (b := e.bank)
        { weave := rfl, slot := rfl, other := rfl, old := old, new := old, unmarked := fun armed => absurd armed notArmed
          beside := fun own => own.elim (absurd · notArmed) (absurd · notRetired), loaded := fun _ => alone
          record := h.1.record _, retained := h.1.retained _, four := four
          queued := fun x held => by
            rcases List.mem_cons.mp held with rfl | held
            · exact loads
            · exact queued x (by rw [queue]; exact List.mem_cons_of_mem _ held)
          closing := fun _ => List.cons_ne_nil _ _, shaped := fun hp => h.1.shaped hp _ }
    · obtain ⟨a, found⟩ := Option.isSome_iff_exists.mp (h.1.kept_record stands)
      have blank := h.1.not_retained notRetired found
      have written : (lineWritten e (s.bank e.bank)).record =
          some { a with lines := a.lines.set e.line (some e.scheme) } := by rw [lineWritten, found]; rfl
      obtain ⟨own, other, rest_, weave, slot⟩ := finishEntry_bank e rest s
      split at own
      next ends =>
        exact h.close loads written blank (fun hp => wellShaped_line (h.1.shaped hp _ a found).1 _ _) (rest_.trans ends.2)
          own other weave slot
      next goesOn =>
        have state : ((finishEntry e rest s).bank e.bank).state = (s.bank e.bank).state := by rw [own]; rfl
        refine h.reload (b := e.bank)
          { weave := weave, slot := slot, other := other, old := old, new := ?_
            unmarked := fun armed => absurd armed notArmed, beside := ?_, loaded := fun _ => alone, record := ?_
            retained := ?_, four := ?_, queued := ?_, closing := ?_, shaped := ?_ }
        · rw [state]; exact old
        · rw [state]; exact fun own => own.elim (absurd · notArmed) (absurd · notRetired)
        · have record := h.1.record e.bank
          rw [Bank.RecordSound, found] at record
          rw [Bank.RecordSound, own, written]
          exact record
        · rw [Bank.RetainedSound, state, own, written, beq_eq_false_iff_ne.mpr notRetired]
          simp [blank]
        · rw [rest_]
          exact (Nat.le_succ _).trans four
        · intro x held
          rw [ours x (rest_ ▸ held), state]
          exact loads
        · rw [state, rest_]
          rintro (closes | closes)
          · exact fun empty => goesOn ⟨closes, empty⟩
          · exact absurd closes notClosing
        · intro hp y held
          rw [own, written] at held
          cases held
          exact ⟨wellShaped_line (h.1.shaped hp _ a found).1 _ _, fun closed => by rw [state, loads] at closed; cases closed⟩

/-- A completed burst of the load queue, and the grant after it (R161, R163). -/
theorem Laws.finishQueueBurst (h : Laws w p s) (x : Burst) : Laws w p (finishQueueBurst x s) := by
  have granted {y : State} (hy : Laws w p y) : Laws w p (grant y) :=
    hy.congr (by simp [storeView]) (by simp [weaveView]) (by simp [slotView])
  have freed : Laws w p (freePort { s with store.memory := writeBytes s.store.memory x.address x.data }) :=
    h.congr rfl rfl rfl
  unfold Machine.finishQueueBurst
  dsimp only
  refine granted ?_
  split
  · exact freed
  · exact freed.advanceQueue

/-- The reset state obeys the laws (R21, R51, R169). -/
theorem laws_of_reset (banks : storeView t = (Bank.reset, Bank.reset, [])) (slot : slotView t = (.empty, false, [], none))
    (engine : t.pick.engine = .noArticle) (position : t.pick.position = none) : Laws w p t := by
  simp only [storeView, slotView, Prod.mk.injEq] at banks slot
  obtain ⟨bankA, bankB, queue⟩ := banks
  obtain ⟨held, reforming, history, owed⟩ := slot
  have bank (b : BankId) : t.bank b = Bank.reset := by cases b <;> assumption
  obtain ⟨record, retained, shaped⟩ := reset_sound
  refine ⟨?_, by simp [Owes, owed, engine], marked_of_empty held⟩
  exact
    { alone := fun b => by simp [bank, Bank.reset]
      beside := fun b => by simp [bank, Bank.reset]
      loaded := fun b => by simp [bank, Bank.reset, BankState.beingLoaded]
      record := fun b => bank b ▸ record
      retained := fun b => bank b ▸ retained
      four := by simp [queue]
      queued := by simp [queue]
      closing := fun b => by simp [bank, Bank.reset]
      absent := by simp [engine, position]
      named := by simp [position]
      unnamed := by simp [bank, Bank.reset]
      lost := by simp [engine]
      sixteen := by simp [history]
      slot := .inl held
      reforming := by simp [reforming, held, Slot.isReform]
      fits := by simp [position]
      shaped := fun _ b => bank b ▸ shaped
      holds := by simp [position] }

/-! ## Every row -/

/-- The frame in the slot goes on through its stages (R109–R111). -/
theorem Laws.stage (h : Laws w p s) {d d' : Descriptor} {v v' : GuardView} {st st' : Stage}
    (held : s.frame.slot = .assembling d v st) (goesOn : t.frame.slot = .assembling d' v' st') (kind : d'.kind = d.kind)
    (swap : d'.swap = d.swap) (store : storeView t = storeView s) (weave : weaveView t = weaveView s)
    (history : t.pick.history = s.pick.history) (flag : t.pick.reforming = s.pick.reforming)
    (owed : t.frame.owed = s.frame.owed) : Laws w p t := by
  obtain ⟨core, owes, marked⟩ := h
  have ready := core.slot.resolve_left (by rw [held]; nofun)
  refine ⟨core.reslot store weave (by rw [history]; exact core.sixteen) (.inr ready) ?_, owes.congr weave owed,
    marked.congr store weave fun pending => ?_⟩
  · rw [flag, core.reforming, held, goesOn, Slot.isReform, Slot.isReform, kind]
  · rw [State.swapPending, goesOn] at pending
    rw [State.swapPending, held]
    exact swap.symm.trans pending

/-- The data of a frame's burst (R110, R111). -/
theorem Laws.takeFrameData (h : Laws w p s) (data : List Byte) : Laws w p (takeFrameData data s) := by
  unfold Machine.takeFrameData
  split
  next d v old held =>
    dsimp only
    split
    · exact h.stage held rfl rfl rfl rfl rfl rfl rfl rfl
    · have computed : Laws w p (computeFrame d v (old ++ data) s) := h.stage held rfl rfl rfl rfl rfl rfl rfl rfl
      split
      · exact computed.completeForward.completeReform
      · exact computed
  · exact h

/-- A line joins the load queue (R159). -/
theorem Laws.queueLine (h : Laws w p s) (e : QueueEntry) (opened : (s.bank e.bank).state = .opened)
    (room : s.store.queue.length ≠ 4) : Laws w p { s with store.queue := s.store.queue ++ [e] } := by
  have alone := h.1.loaded e.bank (by rw [opened]; rfl)
  refine h.queue opened (fun k => bank_congr rfl rfl k) rfl rfl ?_ fun x held => ?_
  · have four := h.1.four
    simp only [List.length_append, List.length_singleton]
    omega
  · rcases List.mem_append.mp held with held | held
    · have loads := h.1.queued x.bank x held rfl
      by_contra ne
      have which : x.bank = otherBank e.bank := by cases hx : x.bank <;> cases he : e.bank <;> simp_all
      rw [which, alone] at loads
      cases loads
    · rw [List.mem_singleton.mp held]

/-- CLOSE ARTICLE with the queue drained (R149, R150). -/
theorem Laws.closeNow (h : Laws w p s) (opened : (s.bank b).state = .opened) (drained : s.store.queue = []) :
    Laws w p (finishClose b (s.setBank b ((s.bank b).withState .closing))) := by
  obtain ⟨a, found⟩ := Option.isSome_iff_exists.mp (h.1.kept_record (b := b) (by rw [opened]; decide))
  have blank := h.1.not_retained (b := b) (by rw [opened]; decide) found
  refine h.close (b := b) (x := (s.bank b).withState .closing) (by rw [opened]; rfl) found blank
    (fun hp => (h.1.shaped hp b a found).1) (by simpa using drained) ?_ ?_ (by simp [weaveView]) (by simp [slotView]) <;>
    cases b <;> rfl

/-- DISCARD BANK of an OPEN bank drops the queue with it (R154, R162). -/
theorem Laws.discardOpen (h : Laws w p s) (opened : (s.bank b).state = .opened) :
    Laws w p (emptyReadback b ((dropQueue s).setBank b Bank.reset)) := by
  have dropped : Laws w p (dropQueue s) :=
    h.queue opened (bank_dropQueue s) (by simp [weaveView]) (by simp [slotView]) (by simp) (by simp)
  apply dropped.discardBank <;> simp [opened]

/-- Every effect of a row keeps the laws. -/
theorem laws_of_effect (h : Laws w p s) (e : Effect s t) : Laws w p t := by
  have still {x : State} (store : storeView x = storeView s) (weave : weaveView x = weaveView s)
      (slot : slotView x = slotView s) : Laws w p x := h.congr store weave slot
  have granted {y : State} (hy : Laws w p y) : Laws w p (grant y) :=
    hy.congr (by simp [storeView]) (by simp [weaveView]) (by simp [slotView])
  have freed : Laws w p (freePort s) := still rfl rfl rfl
  have moved {x : State} (cause : Cause) (rest : s.Movable) (core : Core w p x)
      (same : x.pick.engine = s.pick.engine ∧ x.shaft.reference = s.shaft.reference ∧ x.frame.owed = s.frame.owed) :
      Laws w p (finishMove cause x) := by
    refine laws_finishMove core h.2.1 (fun none => ?_) h.1 same.1 same.2.1 same.2.2 cause
    cases rest.1.symm.trans (h.1.absent.mpr none)
  cases e with
  | count dir => exact h.shaftCount dir
  | illegal =>
    have lines : Laws w p { s with shaft.lines := { a := !s.shaft.lines.a, b := !s.shaft.lines.b } } := still rfl rfl rfl
    unfold illegalStep
    dsimp only
    split
    · exact lines.loseShaft _
    · exact lines
  | index => exact h.takeIndex
  | stillTimer => exact still rfl rfl rfl
  | setInput i b => cases i <;> simp only [setReleaseInput] <;> split <;> apply still <;> simp [storeView, weaveView, slotView]
  | trackInput i b => cases i <;> exact still rfl rfl rfl
  | forwardComplete => exact h.completeForward
  | reformComplete => exact h.completeReform
  | frameData data => exact granted (freed.takeFrameData data)
  | readbackData data => exact granted (still (by simp [storeView]) (by simp [weaveView]) (by simp [slotView]))
  | commit k x own valid => exact h.commitTable k valid
  | level on => exact h.setLevel on
  | stepBack n rest => exact moved .step rest ((h.1.backwardMoves n).congr rfl rfl rfl) (by simp)
  | stepForward n rest => exact moved .step rest ((h.1.forwardMoves n).congr rfl rfl rfl) (by simp)
  | setPosition q line step rep rest at_ holds =>
    have core := h.1.setPosition at_ (r := { bank := q.bank, line := line, step := step, rep := rep }) rfl fun _ => holds
    exact moved .set rest core (by simp)
  | swapNow q rest at_ waits fits => exact moved .swap rest (h.1.commitSwap at_ waits fun _ => fits) (by simp)
  | unload => exact h.unloadArticle
  | resync away => exact h.resyncShaft away
  | openBank b width height f free positive => exact h.openBank width height f free positive
  | reopen b closed free => exact h.reopen closed free
  | define b a opened edits => exact h.define opened edits
  | queueLine e opened room => exact granted (h.queueLine e opened room)
  | closeWaits b opened waits => apply h.withState <;> simp [opened, waits, BankState.beingLoaded]
  | closeNow b opened drained => exact h.closeNow opened drained
  | arm b ready beside => apply h.withState <;> simp [ready, beside, BankState.beingLoaded]
  | install b ready alone fits => exact h.install ready alone fits
  | disarm b armed free => apply h.withState <;> simp [armed, free, BankState.beingLoaded]
  | discardOpen b opened => exact h.discardOpen opened
  | discardClosed b closed =>
    rcases closed with e | e | ⟨e, free⟩ <;> apply h.discardBank <;> simp [e, BankState.beingLoaded]
    exact free
  | resetPin ra rb => unfold keepFixed; split <;> exact laws_of_reset rfl rfl rfl rfl
  | powerOn ra rb => exact laws_of_reset rfl rfl rfl rfl
  | _ =>
    apply still <;>
      simp [storeView, weaveView, slotView, firstExpiry, secondExpiry, followDrivers, drawFree,
        clearEvents, setEnables, storeNote, setShadow, dropClaim, clearFault, bringFeederIn, applyTiming, applyDrive, endReset]

/-- Rows and time keep the laws. -/
theorem kept_laws (w p : Prop) : Kept (Laws w p) where
  queues s c x h := h.congr rfl rfl rfl
  wire s k b l _ h := h.congr (by simp [storeView]) (by simp [weaveView]) (by simp [slotView])
  closes s t c h := by
    obtain ⟨shaft, pick, frame, harness, store, -⟩ := closes_keeps c
    exact h.congr (by rw [storeView, store]; rfl) (by rw [weaveView, pick, shaft, harness]; rfl)
      (by rw [slotView, frame, pick]; rfl)
  effect s t e h := laws_of_effect h e
  tick s h := by
    obtain ⟨pick, frame, store, reference, live, -⟩ := tick_keeps (s := s)
    exact h.congr (by rw [storeView, store]; rfl) (by rw [weaveView, pick, reference, live]; rfl)
      (by rw [slotView, frame, pick]; rfl)

/-- Every step keeps the laws. -/
theorem laws_step (h : Laws w p s) (stepped : step s = .next t) : Laws w p t :=
  (kept_laws w p).step (fun _ x _ hx => hx.finishQueueBurst x) h stepped

end Banks

/-- Settles O56: the law but for the swap mark is kept by every move of the position and of the banks, and the swap mark's
own part by the discard before each re-form and by the decision before each forward frame. -/
theorem engineLawKept : Obligations.EngineLawKept := by
  unfold Obligations.EngineLawKept
  intro s t law stepped
  have laws : Laws False False s := (laws_iff ..).mpr ⟨law, nofun, nofun⟩
  exact ((laws_iff ..).mp (laws_step laws stepped)).1

/-- Settles O57: the width law and the position law go along with the law of the engine; the law of the tables rests on
the validation of R135 alone. -/
theorem articleAndTableLawsKept : Obligations.ArticleAndTableLawsKept := by
  unfold Obligations.ArticleAndTableLawsKept
  intro s t law stepped
  refine ⟨fun width => ?_, fun position => ?_, fun table => ?_⟩
  · have laws : Laws True False s := (laws_iff ..).mpr ⟨law, fun _ => width, nofun⟩
    exact ((laws_iff ..).mp (laws_step laws stepped)).2.1 trivial
  · have laws : Laws False True s := (laws_iff ..).mpr ⟨law, nofun, fun _ => position⟩
    exact ((laws_iff ..).mp (laws_step laws stepped)).2.2 trivial
  · exact kept_tableLaw.step (fun x b _ h => tableLaw_congr (by rw [finishQueueBurst_harness])
      (by rw [finishQueueBurst_harness]) h) table stepped

end Sys2Proof.Proofs
end

section
/-! PROOF. The links, the tracker and the float guard at every step (O54, O55), and the state after reset (O58). -/

namespace Sys2Proof.Proofs

open Sys2Proof.Machine

/-! ## Events and the flags (R191–R193, R196) -/

section Flags

variable {l l' : LinkState} {e : Event}

/-- Attention is asserted exactly while a flag is set and enabled (R193). -/
def Follows (l : LinkState) : Prop := l.attention = ((l.flags &&& l.enables) != 0#16)

/-- An event but NOTE shares no flag with NOTE and none with the unassigned flags (R191). -/
theorem eventBit_apart (k : Link) (other : e ≠ .note) :
    (eventBit k e).getLsbD (noteNumber k) = false ∧ eventBit k e &&& unassignedFlags k = 0#16 := by
  cases e with
  | note => exact absurd rfl other
  | _ => cases k <;> exact ⟨rfl, rfl⟩

/-- The flags of a link, by the bit of NOTE (R192, R196). -/
theorem flagsSound_iff (k : Link) :
    l.FlagsSound k ↔ l.noteSlot.isSome = l.flags.getLsbD (noteNumber k) ∧ l.flags &&& unassignedFlags k = 0#16 := by
  rw [LinkState.FlagsSound, marks_note]

/-- A link whose flags, enables, attention and note slot are as they were. -/
theorem link_congr (k : Link) (flags : l'.flags = l.flags) (enables : l'.enables = l.enables)
    (attention : l'.attention = l.attention) (note : l'.noteSlot = l.noteSlot) :
    (Follows l → Follows l') ∧ (l.FlagsSound k → l'.FlagsSound k) := by
  rw [Follows, Follows, flagsSound_iff, flagsSound_iff, flags, enables, attention, note]
  exact ⟨id, id⟩

/-- An event but NOTE is raised (R192). -/
theorem link_raised (k : Link) (other : e ≠ .note) (sound : l.FlagsSound k) :
    (l.setFlags (l.flags ||| eventBit k e) l.enables).FlagsSound k := by
  obtain ⟨note, unassigned⟩ := eventBit_apart k other
  rw [flagsSound_iff] at sound ⊢
  refine ⟨?_, ?_⟩
  · simp [note, sound.1]
  · refine BitVec.eq_of_getLsbD_eq fun i _ => ?_
    have old := congrArg (·.getLsbD i) sound.2
    have new := congrArg (·.getLsbD i) unassigned
    simp only [BitVec.getLsbD_and, BitVec.getLsbD_zero] at old new
    simp only [setFlags_fields, BitVec.getLsbD_and, BitVec.getLsbD_or, BitVec.getLsbD_zero, Bool.and_or_distrib_right, old,
      new, Bool.or_self]

end Flags

/-! ## What an operation carries on -/

section Carries

variable {s t u : State}

/-- An operation keeps attention, the flags, the tracker's ranges and the float guard's. -/
structure Carried (s t : State) : Prop where
  attention : ∀ k, Follows (s.link k) → Follows (t.link k)
  flags : ∀ k, (s.link k).FlagsSound k → (t.link k).FlagsSound k
  shaft : s.shaft.InRange → t.shaft.InRange
  float : s.frame.FloatInRange → t.frame.FloatInRange

theorem Carried.refl (s : State) : Carried s s := ⟨fun _ => id, fun _ => id, id, id⟩

theorem Carried.trans (h : Carried s t) (h' : Carried t u) : Carried s u :=
  ⟨fun k => h'.attention k ∘ h.attention k, fun k => h'.flags k ∘ h.flags k, h'.shaft ∘ h.shaft, h'.float ∘ h.float⟩

/-- The settings of the float guard and its committed state. -/
def floatView (s : State) : GuardSettings × List FloatRun := (s.frame.guard, s.frame.committed)

theorem float_congr (float : floatView t = floatView s) : s.frame.FloatInRange → t.frame.FloatInRange := by
  simp only [floatView, Prod.mk.injEq] at float
  rw [FrameBuilder.FloatInRange, FrameBuilder.FloatInRange, float.1, float.2]
  exact id

theorem float_cleared (guard : t.frame.guard = s.frame.guard) (cleared : t.frame.committed = []) :
    s.frame.FloatInRange → t.frame.FloatInRange := by
  rw [FrameBuilder.FloatInRange, FrameBuilder.FloatInRange, guard, cleared]
  exact fun h => ⟨h.1, h.2.1, nofun⟩

/-- The links stay. -/
theorem carried_of_links (link : ∀ k, t.link k = s.link k) (shaft : s.shaft.InRange → t.shaft.InRange)
    (float : s.frame.FloatInRange → t.frame.FloatInRange) : Carried s t :=
  ⟨fun k h => by rw [link]; exact h, fun k h => by rw [link]; exact h, shaft, float⟩

/-- The links, the tracker and the float guard stay. -/
theorem carried_still (loom : t.loom = s.loom) (design : t.design = s.design) (shaft : t.shaft = s.shaft)
    (float : floatView t = floatView s) : Carried s t :=
  carried_of_links (fun k => by cases k <;> assumption) (fun h => by rw [shaft]; exact h) (float_congr float)

/-- The links and the tracker stay, and the committed state is cleared. -/
theorem carried_cleared (loom : t.loom = s.loom) (design : t.design = s.design) (shaft : t.shaft = s.shaft)
    (guard : t.frame.guard = s.frame.guard) (cleared : t.frame.committed = []) : Carried s t :=
  carried_of_links (fun k => by cases k <;> assumption) (fun h => by rw [shaft]; exact h) (float_cleared guard cleared)

/-- One link is written. -/
theorem carried_setLink (k : Link) (l : LinkState) (attention : Follows (s.link k) → Follows l)
    (flags : (s.link k).FlagsSound k → l.FlagsSound k) : Carried s (s.setLink k l) := by
  have link (x : Link) : x = k ∧ (s.setLink k l).link x = l ∨ (s.setLink k l).link x = s.link x := by
    cases x <;> cases k <;> simp
  refine ⟨fun x h => ?_, fun x h => ?_, by simp, by simp⟩
  · rcases link x with ⟨rfl, e⟩ | e <;> rw [e]
    · exact attention h
    · exact h
  · rcases link x with ⟨rfl, e⟩ | e <;> rw [e]
    · exact flags h
    · exact h

theorem carried_raise (k : Link) {e : Event} (other : e ≠ .note) (s : State) : Carried s (raise k e s) :=
  carried_setLink k _ (fun _ => rfl) (link_raised k other)

theorem carried_raiseIf (c : Bool) (k : Link) {e : Event} (other : e ≠ .note) (s : State) : Carried s (raiseIf c k e s) := by
  cases c
  · exact .refl s
  · exact carried_raise k other s

theorem carried_raiseBoth {e : Event} (other : e ≠ .note) (s : State) : Carried s (raiseBoth e s) :=
  (carried_raise .loom other s).trans (carried_raise .design other _)

end Carries

/-! ## Faults, feeders and the position -/

section Operations

variable (s : State)

theorem carried_reportFault (kind : FaultKind) (cause : LossCause) : Carried s (reportFault kind cause s) := by
  unfold reportFault
  split
  · refine .trans ?_ (carried_raiseBoth (by decide) _)
    exact carried_still rfl rfl rfl rfl
  · exact carried_still rfl rfl rfl rfl

theorem carried_raiseResolution (r : Option (Fin 8) × Bool) : Carried s (raiseResolution r s) := by
  unfold raiseResolution
  split
  · exact carried_reportFault ..
  · exact carried_raiseIf _ _ (by decide) s

theorem carried_setOutput (f : Option (Fin 8)) (r : Option OutputRecord) : Carried s (setOutput f r s) :=
  carried_still rfl rfl rfl rfl

theorem carried_reResolveOutput (r : OutputRecord) : Carried s (reResolveOutput r s) := by
  unfold reResolveOutput
  dsimp only
  split
  · exact (carried_setOutput ..).trans (carried_reportFault ..)
  · exact (carried_setOutput ..).trans (carried_raiseIf _ _ (by decide) _)

theorem carried_presentFeeder (f : Option (Fin 8)) (d : Descriptor) : Carried s (presentFeeder f d s) := by
  unfold presentFeeder
  dsimp only
  split
  · exact carried_setOutput ..
  · exact carried_reResolveOutput ..

theorem carried_weftSelect : Carried s (weftSelect s) := by
  unfold weftSelect
  split
  · exact carried_setOutput ..
  · split
    · exact .refl s
    · split
      · exact carried_presentFeeder ..
      · exact carried_setOutput ..

theorem carried_takeFeederOut (f : Fin 8) : Carried s (takeFeederOut f s) := by
  have out : Carried s { s with frame.available := s.frame.available.set f false } := carried_still rfl rfl rfl rfl
  unfold takeFeederOut
  dsimp only
  split
  · split
    · exact out.trans (carried_reResolveOutput ..)
    · exact out.trans (carried_setOutput ..)
  · exact out

theorem carried_refuseSwap (b : BankId) : Carried s (refuseSwap b s) :=
  (carried_still (by simp) (by simp) (by simp) (by simp [floatView])).trans (carried_raiseBoth (by decide) _)

theorem carried_commitSwap (q : Position) : Carried s (commitSwap q s) := by
  refine .trans ?_ (carried_raiseBoth (by decide) _)
  exact carried_cleared (by simp) (by simp) (by simp) (by simp) rfl

theorem carried_undoSwap (q : Position) : Carried s (undoSwap q s) := by
  refine .trans ?_ (carried_raiseBoth (by decide) _)
  exact carried_cleared (by simp) (by simp) (by simp) (by simp) rfl

theorem carried_setPosition (q : Position) : Carried s (setPosition q s) := carried_still rfl rfl rfl rfl

theorem carried_plainWrap (q : Position) : Carried s (plainWrap q s) :=
  (carried_setPosition s _).trans (carried_raiseBoth (by decide) _)

theorem carried_forwardMove (decided : Option Bool) : Carried s (forwardMove decided s) := by
  unfold forwardMove
  split
  · exact .refl s
  · split
    · exact carried_setPosition s _
    · split
      · unfold wrapNow
        split
        · exact carried_plainWrap s _
        · exact (carried_refuseSwap s _).trans (carried_plainWrap _ _)
        · exact carried_commitSwap s _
      · exact carried_commitSwap s _
      · exact carried_plainWrap s _

theorem carried_backwardMove : Carried s (backwardMove s) := by
  unfold backwardMove
  split
  · exact .refl s
  · split
    · exact carried_setPosition s _
    · split
      · split
        · exact carried_undoSwap s _
        · exact (carried_raiseBoth (by decide) s).trans (carried_setPosition _ _)
      · exact carried_setPosition s _

theorem carried_forwardMoves (n : Nat) : Carried s (forwardMoves n s) := by
  induction n generalizing s with
  | zero => exact .refl s
  | succ n ih => exact (carried_forwardMove s none).trans (ih _)

theorem carried_backwardMoves (n : Nat) : Carried s (backwardMoves n s) := by
  induction n generalizing s with
  | zero => exact .refl s
  | succ n ih => exact (carried_backwardMove s).trans (ih _)

theorem carried_addRecord (kind : RecordKind) (f : Option (Fin 8)) (sub : Bool) (n : Nat) :
    Carried s (addRecord kind f sub n s) :=
  carried_still (by simp) (by simp) (by simp) (by simp [floatView])

theorem carried_advance (d : Option Bool) (kind : RecordKind) (f : Option (Fin 8)) (sub : Bool) (n : Nat) :
    Carried s (advance d kind f sub n s) := by
  refine (carried_forwardMove s d).trans (.trans ?_ ((carried_raiseIf _ _ (by decide) _).trans (carried_addRecord ..)))
  exact carried_still rfl rfl rfl rfl

/-! ## Frames -/

theorem carried_grant : Carried s (grant s) := carried_still (by simp) (by simp) (by simp) (by simp [floatView])

theorem carried_discard : Carried s (discard s) := carried_still (by simp) (by simp) (by simp) (by simp [floatView])

theorem carried_beginFrame (kind : FrameKind) (q : Position) (swap : Bool) (n : Nat) :
    Carried s (beginFrame kind q swap n s) := by
  unfold beginFrame
  dsimp only
  split
  · refine .trans ?_ ((carried_raiseResolution _ _).trans (carried_still rfl rfl rfl rfl))
    exact carried_still rfl rfl rfl rfl
  · refine .trans ?_ ((carried_raiseResolution _ _).trans (carried_grant _))
    exact carried_still rfl rfl rfl rfl

theorem carried_completeForward : Carried s (completeForward s) := by
  unfold completeForward
  split
  · split
    · refine carried_of_links (fun k => by cases k <;> rfl) (fun h => ?_) (float_congr rfl)
      obtain ⟨angle, timing, speed, interval, slack, -, rest⟩ := h
      exact ⟨angle, timing, speed, interval, slack, Nat.zero_le _, rest⟩
    · exact .refl s
  · exact .refl s

theorem carried_beginForward (q : Position) (swap : Bool) : Carried s (beginForward q swap s) := by
  unfold beginForward
  dsimp only
  split
  · exact (carried_beginFrame ..).trans (carried_completeForward _)
  · exact carried_beginFrame ..

theorem carried_startForward : Carried s (startForward s) := by
  unfold startForward
  split
  · split
    · exact .refl s
    · split
      · exact carried_beginForward s _ _
      · split
        · exact carried_beginForward s _ _
        · exact (carried_refuseSwap s _).trans (carried_beginForward _ _ _)
        · exact carried_beginForward s _ _
  · exact .refl s

theorem carried_restartStandstill : Carried s (restartStandstill s) :=
  carried_still (by simp) (by simp) (by simp) (by simp [floatView])

theorem carried_takeReform (d : Descriptor) (cause : Cause) : Carried s (takeReform d cause s) := by
  refine .trans ?_ ((carried_presentFeeder _ _ d).trans ((carried_addRecord _ _ _ _ _).trans
    ((carried_raise _ (by decide) _).trans (carried_restartStandstill _))))
  exact carried_cleared rfl rfl rfl rfl rfl

theorem carried_completeReform : Carried s (completeReform s) := by
  unfold completeReform
  split
  · split
    · exact (carried_takeReform ..).trans (carried_startForward _)
    · exact .refl s
  · exact .refl s

theorem carried_beginReform (cause : Cause) : Carried s (beginReform cause s) := by
  unfold beginReform
  split
  · exact .refl s
  next q _ =>
    have start := (carried_discard s).trans (carried_beginFrame (discard s) (.reform cause) q false s.pick.counter)
    dsimp only
    split
    · exact start.trans (carried_completeReform _)
    · exact start

theorem carried_startReform (cause : Cause) : Carried s (startReform cause s) := by
  unfold startReform
  split
  · exact carried_beginReform s cause
  · exact carried_still rfl rfl rfl rfl

theorem carried_startOwed : Carried s (startOwed s) := by
  unfold startOwed
  split
  · exact .refl s
  · refine .trans ?_ (carried_startReform _ _)
    exact carried_still rfl rfl rfl rfl

theorem carried_takeFrameData (data : List Byte) : Carried s (takeFrameData data s) := by
  have computed (d : Descriptor) (v : GuardView) (cells : List Byte) : Carried s (computeFrame d v cells s) :=
    carried_still rfl rfl rfl rfl
  unfold takeFrameData
  split
  · dsimp only
    split
    · exact carried_still rfl rfl rfl rfl
    · split
      · exact (computed ..).trans ((carried_completeForward _).trans (carried_completeReform _))
      · exact computed ..
  · exact .refl s

end Operations

/-! ## Latches, counts and the index -/

section Shafts

variable (s : State)

/-- The tracker's part of a latch stays in its ranges (R17–R19). -/
theorem carried_latchTracker : Carried s (latchTracker s) := by
  refine .trans ?_ (carried_raiseIf _ _ (by decide) _)
  refine carried_of_links (fun k => by cases k <;> rfl) (fun h => ?_) (float_congr rfl)
  obtain ⟨angle, timing, -, -, -, counter, rest⟩ := h
  refine ⟨angle, timing, ?_, Nat.zero_le _, ?_, counter, rest⟩
  · simp only [Shaft.takeSlack, Shaft.measure, speedOf]
    split
    · split
      · exact Nat.zero_le _
      · split
        · exact le_rfl
        · exact Nat.min_le_right _ _
    · exact Nat.zero_le _
  · simp only [Shaft.takeSlack, Shaft.measure]
    split
    · exact counter
    · exact Nat.zero_le _

/-- A cap lies in 1..64, and at the limit where there is one (R79). -/
theorem cap_bounds {g : GuardSettings} (up : limitInRange g.up) (down : limitInRange g.down) (b : Bool) :
    1 ≤ g.cap b ∧ g.cap b ≤ 64 ∧ (g.limit b ≠ 0 → g.cap b = g.limit b) := by
  have limit : limitInRange (g.limit b) := by cases b <;> assumption
  unfold GuardSettings.cap
  split
  next zero => exact ⟨by decide, le_rfl, fun ne => absurd zero ne⟩
  next ne => exact ⟨by omega, by omega, fun _ => rfl⟩

/-- A run that a delivered lift grows or restarts stays in its range (R79). -/
theorem growRun_inRange {g : GuardSettings} (up : limitInRange g.up) (down : limitInRange g.down) (r : FloatRun) (b : Bool) :
    (growRun g r b).InRange g := by
  obtain ⟨low, high, exact_⟩ := cap_bounds up down b
  have run : 1 ≤ (growRun g r b).run ∧ (growRun g r b).run ≤ g.cap b := by
    unfold growRun
    split
    · exact ⟨le_min (Nat.le_add_left 1 _) low, Nat.min_le_right _ _⟩
    · exact ⟨le_rfl, low⟩
  have sense : (growRun g r b).sense = senseOf b := by unfold growRun; split <;> rfl
  refine ⟨run.2.trans high, ?_, ?_, ?_⟩
  · rw [sense]
    have pos : (growRun g r b).run ≠ 0 := by omega
    cases b <;> simp [senseOf, pos]
  · intro own limit
    cases b
    · cases sense.symm.trans own
    · exact run.2.trans (exact_ limit).le
  · intro own limit
    cases b
    · exact run.2.trans (exact_ limit).le
    · cases sense.symm.trans own

theorem carried_latchFloat (d : Descriptor) : Carried s (latchFloat d s) := by
  unfold latchFloat
  split
  · exact carried_cleared rfl rfl rfl rfl rfl
  · split
    · exact .refl s
    · refine carried_of_links (fun k => by cases k <;> rfl) id fun h => ?_
      obtain ⟨up, down, -⟩ := h
      refine ⟨up, down, fun r committed => ?_⟩
      obtain ⟨hook, -, rfl⟩ := List.mem_map.mp committed
      split
      · exact growRun_inRange up down _ _
      · exact ⟨by decide, by simp, nofun, nofun⟩

theorem carried_takeReady (d : Descriptor) : Carried s (takeReady d s) := by
  unfold takeReady
  dsimp only
  split
  · refine .trans ?_ ((carried_latchFloat _ d).trans (carried_reportFault ..))
    refine .trans ?_ ((carried_advance _ _ _ _ _ _).trans (carried_still rfl rfl rfl rfl))
    exact carried_still rfl rfl rfl rfl
  · refine .trans ?_ (carried_latchFloat _ d)
    refine .trans ?_ ((carried_advance _ _ _ _ _ _).trans (carried_still rfl rfl rfl rfl))
    exact carried_still rfl rfl rfl rfl

theorem carried_takeLate : Carried s (takeLate s) := by
  have cleared : Carried s (clearFloat { discard s with frame.pickFeeder := .noFrame }) :=
    carried_cleared rfl rfl rfl rfl rfl
  exact cleared.trans ((carried_advance ..).trans (carried_reportFault ..))

theorem carried_forwardLatch : Carried s (forwardLatch s) := by
  have engine (x : State) : Carried x (latchEngine x) := by
    unfold latchEngine
    split
    · split
      · exact carried_takeReady x _
      · exact carried_takeLate x
    · exact .refl x
  exact (carried_latchTracker s).trans ((engine _).trans (carried_restartStandstill _))

/-- The cancelled measurement stays in range (R17). -/
theorem carried_cancel : Carried s { s with shaft := s.shaft.cancel } := by
  refine carried_of_links (fun k => by cases k <;> rfl) (fun h => ?_) (float_congr rfl)
  obtain ⟨angle, timing, -, rest⟩ := h
  exact ⟨angle, timing, Nat.zero_le _, rest⟩

theorem carried_finishMove (cause : Cause) : Carried s (finishMove cause s) :=
  (carried_cancel s).trans (carried_startReform _ cause)

theorem carried_reverseLatch : Carried s (reverseLatch s) := by
  unfold reverseLatch
  dsimp only
  split
  · refine (carried_cancel s).trans ((carried_backwardMove _).trans (.trans ?_ (carried_startReform _ _)))
    exact carried_still rfl rfl rfl rfl
  · exact carried_cancel s

theorem carried_crossMarks : Carried s (crossMarks s) := by
  have started (c : Bool) : Carried s (if c then startForward s else s) := by
    cases c
    · exact .refl s
    · exact carried_startForward s
  have selected (x : State) (c : Bool) : Carried x (if c then weftSelect x else x) := by
    cases c
    · exact .refl x
    · exact carried_weftSelect x
  have gated (x : State) (on off : Bool) : Carried x (gateMarks on off x) :=
    carried_still (by simp) (by simp) (by simp) (by simp [floatView])
  exact (started _).trans ((selected _ _).trans (gated _ _ _))

/-- The cycle offset takes a value in its range (R8). -/
theorem carried_offset (d : Int)
    (inside : s.shaft.InRange → s.shaft.reference = .referenced → -(s.shaft.timing.backOff : Int) < d ∧ d ≤ 1023) :
    Carried s { s with shaft.offset := d } := by
  refine carried_of_links (fun k => by cases k <;> rfl) (fun h => ?_) (float_congr rfl)
  have inside := inside h
  obtain ⟨angle, timing, speed, interval, slack, counter, margin, still, cause, -⟩ := h
  exact ⟨angle, timing, speed, interval, slack, counter, margin, still, cause, inside⟩

theorem carried_shaftCount (dir : Direction) : Carried s (shaftCount dir s) := by
  have counted : Carried s (countShaft dir s) := by
    refine .trans ?_ (carried_restartStandstill _)
    refine carried_of_links (fun k => by cases k <;> rfl) (fun h => ?_) (float_congr rfl)
    obtain ⟨-, timing, speed, interval, slack, counter, margin, -, rest⟩ := h
    refine ⟨?_, timing, speed, interval, slack, counter, margin, ?_, rest⟩
    · cases dir <;> exact Nat.le_of_lt_succ (Nat.mod_lt _ (by decide))
    · cases dir <;> simp [motionOf]
  have forward (x : State) (ref : x.shaft.reference = .referenced) : Carried x (countForward x) := by
    unfold countForward
    split
    · refine (carried_offset x 0 fun h _ => ?_).trans ((carried_forwardLatch _).trans (carried_crossMarks _))
      obtain ⟨-, ⟨-, low, -⟩, -⟩ := h
      omega
    next inside =>
      refine (carried_offset x _ fun h _ => ?_).trans (carried_crossMarks _)
      obtain ⟨-, -, -, -, -, -, -, -, -, offset⟩ := h
      have bounds := offset ref
      omega
  have backward (x : State) (ref : x.shaft.reference = .referenced) : Carried x (countBackward x) := by
    unfold countBackward
    dsimp only
    split
    · refine (carried_offset x _ fun h _ => ?_).trans (carried_reverseLatch _)
      obtain ⟨-, ⟨-, low, high, -⟩, -⟩ := h
      omega
    next inside =>
      refine carried_offset x _ fun h _ => ?_
      obtain ⟨-, -, -, -, -, -, -, -, -, offset⟩ := h
      have bounds := offset ref
      omega
  unfold shaftCount
  dsimp only
  split
  next ref =>
    cases dir
    · exact counted.trans (forward _ ref)
    · exact counted.trans (backward _ ref)
  · exact counted

theorem carried_loseShaft (cause : LossCause) (known : cause ≠ .none) : Carried s (loseShaft cause s) := by
  have lost : Carried s { s with shaft := { s.shaft.cancel with reference := .lost, cause := cause } } := by
    refine carried_of_links (fun k => by cases k <;> rfl) (fun h => ?_) (float_congr rfl)
    obtain ⟨angle, timing, -, interval, slack, counter, margin, still, -, -⟩ := h
    exact ⟨angle, timing, Nat.zero_le _, interval, slack, counter, margin, still, by simp [known], nofun⟩
  have off (x : State) : Carried x (weftOff x) := carried_still rfl rfl rfl rfl
  have entered := lost.trans ((carried_reportFault _ .shaftLost cause).trans (off _))
  unfold loseShaft
  dsimp only
  split
  · exact entered.trans (carried_still rfl rfl rfl rfl)
  · exact entered.trans ((carried_discard _).trans (carried_still rfl rfl rfl rfl))

/-- The offset of an angle lies in 0..1,023 (R4, R16). -/
theorem offsetOf_bounds (x : Timing) (angle : Nat) : 0 ≤ x.offsetOf angle ∧ x.offsetOf angle ≤ 1023 := by
  unfold Timing.offsetOf
  omega

theorem carried_takeIndex : Carried s (takeIndex s) := by
  unfold takeIndex
  split
  next away =>
    refine .trans ?_ (carried_startOwed _)
    refine carried_of_links (fun k => by cases k <;> rfl) (fun h => ?_) (float_congr rfl)
    obtain ⟨-, timing, speed, interval, slack, counter, margin, still, cause, -⟩ := h
    have low := timing.2.1
    have bounds := offsetOf_bounds s.shaft.timing 0
    refine ⟨Nat.zero_le _, timing, speed, interval, slack, counter, margin, still, ?_, fun _ => ?_⟩
    · simpa [away] using cause
    · refine ⟨?_, bounds.2⟩
      show -(s.shaft.timing.backOff : Int) < s.shaft.timing.offsetOf 0
      omega
  next ref =>
    dsimp only
    split
    next near =>
      refine carried_of_links (fun k => by cases k <;> rfl) (fun h => ?_) (float_congr rfl)
      obtain ⟨-, timing, speed, interval, slack, counter, margin, still, cause, offset⟩ := h
      refine ⟨Nat.zero_le _, timing, speed, interval, slack, counter, margin, still, cause, fun _ => ?_⟩
      obtain ⟨-, low, high, -, -, -, -, tolerance, -⟩ := timing
      have bounds := offset ref
      simp only [nearIndex, Bool.or_eq_true, Bool.and_eq_true, decide_eq_true_eq] at near
      simp only [Shaft.adjust, indexCorrection]
      split <;> split <;> (try split) <;> omega
    · exact carried_loseShaft s _ nofun
  · exact .refl s

end Shafts

/-! ## Every row -/

section Rows

variable {s t : State}

/-- What closes a row writes no flag, and moves nothing else the ranges speak of. -/
theorem carried_closes (c : Closes s t) : Carried s t := by
  have answered (k : Link) (code : Byte) (r : Reply) : Carried s (answer k code r s) :=
    carried_setLink k _ (link_congr k rfl rfl rfl rfl).1 (link_congr k rfl rfl rfl rfl).2
  cases c with
  | silent => exact .refl s
  | answer k code r => exact answered k code r
  | overLong k code n => exact carried_setLink k _ (link_congr k rfl rfl rfl rfl).1 (link_congr k rfl rfl rfl rfl).2

/-- A byte, select or release moves none of the flags. -/
theorem carried_wire (k : Link) (b : Byte) {l : LinkState}
    (moved : l ∈ [(s.link k).select, (s.link k).passByte, (s.link k).receive b, (s.link k).release]) :
    Carried s (s.setLink k l) := by
  have same : l.flags = (s.link k).flags ∧ l.enables = (s.link k).enables ∧ l.attention = (s.link k).attention ∧
      l.noteSlot = (s.link k).noteSlot := by
    simp only [List.mem_cons, List.not_mem_nil, or_false] at moved
    rcases moved with rfl | rfl | rfl | rfl
    · unfold LinkState.select
      split <;> simp
    · unfold LinkState.passByte
      split <;> simp
    · simp
    · simp [LinkState.release]
  obtain ⟨flags, enables, attention, note⟩ := same
  exact carried_setLink k _ (link_congr k flags enables attention note).1 (link_congr k flags enables attention note).2

/-- CLEAR EVENTS (R194, R196). -/
theorem carried_clearEvents (k : Link) (marks : BitVec 16) : Carried s (clearEvents k marks s) := by
  rw [clearEvents_eq]
  refine carried_setLink k _ (fun _ => rfl) fun sound => ?_
  rw [flagsSound_iff] at sound ⊢
  obtain ⟨note, unassigned⟩ := sound
  have inside : noteNumber k < 16 := by cases k <;> decide
  refine ⟨?_, ?_⟩
  · rw [BitVec.getLsbD_and, BitVec.getLsbD_not, ← note, decide_eq_true inside]
    cases marks.getLsbD (noteNumber k) <;> simp
  · refine BitVec.eq_of_getLsbD_eq fun i _ => ?_
    have old := congrArg (·.getLsbD i) unassigned
    simp only [BitVec.getLsbD_and, BitVec.getLsbD_zero] at old ⊢
    rw [Bool.and_right_comm, old, Bool.false_and]

/-- NOTE (R195, R196). -/
theorem carried_storeNote (k : Link) (v : Byte) : Carried s (storeNote k v s) := by
  rw [storeNote_eq]
  refine carried_setLink k _ (fun _ => rfl) fun sound => ?_
  rw [flagsSound_iff] at sound ⊢
  have apart : eventBit k .note &&& unassignedFlags k = 0#16 := by cases k <;> rfl
  have own : (eventBit k .note).getLsbD (noteNumber k) = true := by cases k <;> rfl
  refine ⟨by simp [own], BitVec.eq_of_getLsbD_eq fun i _ => ?_⟩
  have old := congrArg (·.getLsbD i) sound.2
  have new := congrArg (·.getLsbD i) apart
  simp only [BitVec.getLsbD_and, BitVec.getLsbD_zero] at old new
  simp only [BitVec.getLsbD_and, BitVec.getLsbD_or, BitVec.getLsbD_zero, Bool.and_or_distrib_right, old, new, Bool.or_self]

/-- The settings SET TIMING takes lie in the ranges of its table (R14, R15). -/
theorem timingOf_inRange {p : List Byte} (valid : (timingOf p).failure = none) : (timingOf p).InRange := by
  have backOff : 2 ≤ (timingOf p).backOff ∧ (timingOf p).backOff ≤ 32 := by simp only [timingOf, clamp]; omega
  have still : 50 ≤ (timingOf p).stillTime ∧ (timingOf p).stillTime ≤ 1000 := by simp only [timingOf, clamp]; omega
  obtain ⟨latch, select, on, off, tolerance, start, -⟩ := (timing_failure_eq_none_iff _ backOff.2).mp valid
  exact ⟨latch, backOff.1, backOff.2, start, select, on, off, tolerance, still.1, still.2⟩

/-- SET TIMING (R16). -/
theorem carried_applyTiming {p : List Byte} (valid : (timingOf p).failure = none) :
    Carried s (applyTiming (timingOf p) s) := by
  refine carried_of_links (fun k => by cases k <;> rfl) (fun h => ?_) (float_congr rfl)
  have timing := timingOf_inRange valid
  obtain ⟨angle, -, speed, interval, slack, counter, margin, still, cause, -⟩ := h
  refine ⟨angle, timing, speed, interval, slack, counter, margin, still, cause, fun ref => ?_⟩
  have bounds := offsetOf_bounds (timingOf p) s.shaft.angle
  have low := timing.2.1
  have offset : (applyTiming (timingOf p) s).shaft.offset = (timingOf p).offsetOf s.shaft.angle := if_pos ref
  rw [offset]
  exact ⟨by show -((timingOf p).backOff : Int) < _; omega, bounds.2⟩

/-- A limit after its clamp lies in its range (R73). -/
theorem floatLimit_inRange (n : Nat) : limitInRange (floatLimit n) := by
  unfold floatLimit clamp
  split
  · exact .inl rfl
  · exact .inr (by omega)

/-- The state after reset, whatever the pins (R21, R72, R198). -/
theorem carried_reset {x : State} (links : x.loom = .reset ∧ x.design = .reset)
    (shaft : x.shaft = { Shaft.reset with lines := x.shaft.lines }) (frame : x.frame = .reset) : Carried s x := by
  have link (k : Link) : x.link k = LinkState.reset := by cases k; exacts [links.1, links.2]
  refine ⟨fun k _ => by rw [link]; rfl, fun k _ => by rw [link]; cases k <;> exact ⟨rfl, rfl⟩, fun _ => ?_, fun _ => ?_⟩
  · have inside : Shaft.reset.InRange := by decide
    rw [shaft]
    exact inside
  · rw [frame]
    exact ⟨.inl rfl, .inl rfl, nofun⟩

/-- Every effect of a row carries on attention, the flags and the ranges. -/
theorem carried_effect (e : Effect s t) : Carried s t := by
  have still {x : State} (same : x.loom = s.loom ∧ x.design = s.design ∧ x.shaft = s.shaft ∧ floatView x = floatView s) :
      Carried s x := carried_still same.1 same.2.1 same.2.2.1 same.2.2.2
  cases e with
  | count dir => exact carried_shaftCount s dir
  | illegal =>
    have lines : Carried s { s with shaft.lines := { a := !s.shaft.lines.a, b := !s.shaft.lines.b } } :=
      carried_of_links (fun k => by cases k <;> rfl) id (float_congr rfl)
    unfold illegalStep
    dsimp only
    split
    · exact lines.trans (carried_loseShaft _ _ nofun)
    · exact lines
  | index => exact carried_takeIndex s
  | stillTimer =>
    refine carried_of_links (fun k => by cases k <;> rfl) (fun h => ?_) (float_congr rfl)
    obtain ⟨angle, timing, -, interval, slack, counter, margin, -, rest⟩ := h
    exact ⟨angle, timing, Nat.zero_le _, interval, slack, counter, margin, by simp [stillExpiry], rest⟩
  | firstStandstill =>
    refine .trans ?_ (carried_raise _ (by decide) _)
    exact still ⟨rfl, rfl, rfl, rfl⟩
  | secondStandstill =>
    refine .trans ?_ (carried_raise _ (by decide) _)
    exact still ⟨rfl, rfl, rfl, rfl⟩
  | setInput i b =>
    have raised (x : HarnessUnit) :
        Carried s (raise .loom .releaseInputChange (followDrivers { s with harness := x })) := by
      refine .trans ?_ (carried_raise _ (by decide) _)
      exact still ⟨rfl, rfl, rfl, rfl⟩
    cases i <;> simp only [setReleaseInput] <;> split
    exacts [.refl s, raised _, .refl s, raised _]
  | trackInput i b => cases i <;> exact still ⟨rfl, rfl, rfl, rfl⟩
  | forwardComplete => exact carried_completeForward s
  | reformComplete => exact carried_completeReform s
  | frameData data =>
    refine .trans ?_ ((carried_takeFrameData (freePort s) data).trans (carried_grant _))
    exact still ⟨rfl, rfl, rfl, rfl⟩
  | readbackData data =>
    refine .trans ?_ (carried_grant _)
    unfold takeReadbackData
    split
    · dsimp only
      split
      · exact still ⟨rfl, rfl, rfl, rfl⟩
      · refine .trans ?_ (carried_raise _ (by decide) _)
        exact still ⟨rfl, rfl, rfl, rfl⟩
    · exact still ⟨rfl, rfl, rfl, rfl⟩
  | release k => exact carried_wire k 0#8 (by simp)
  | clearEvents k marks => exact carried_clearEvents k marks
  | setEnables k x => exact carried_setLink k _ (fun _ => rfl) id
  | storeNote k v => exact carried_storeNote k v
  | commit k x own valid =>
    rw [commitTable_eq]
    have taken : Carried s (takeTable x s) := carried_cleared (by simp) (by simp) (by simp) (by simp) (by simp)
    refine .trans ?_ (carried_raise _ (by decide) _)
    split
    · exact taken.trans (carried_startReform _ _)
    · exact taken
  | freeClaim k =>
    refine .trans ?_ (carried_raise _ (by decide) _)
    exact still ⟨rfl, rfl, rfl, rfl⟩
  | stepBack n rest =>
    refine (carried_backwardMoves s n).trans (.trans ?_ (carried_finishMove _ _))
    exact carried_still rfl rfl rfl rfl
  | stepForward n rest =>
    refine (carried_forwardMoves s n).trans (.trans ?_ (carried_finishMove _ _))
    exact carried_still rfl rfl rfl rfl
  | setPosition q => exact (carried_setPosition s _).trans (carried_finishMove _ _)
  | swapNow q => exact (carried_commitSwap s q).trans (carried_finishMove _ _)
  | unload rest =>
    refine .trans ?_ (carried_raiseIf _ _ (by decide) _)
    exact still ⟨by simp [standstillOff, weftOff], by simp [standstillOff, weftOff], by simp [standstillOff, weftOff],
      by simp [standstillOff, weftOff, floatView]⟩
  | resync away =>
    refine carried_of_links (fun k => by cases k <;> rfl) (fun h => ?_) (float_congr rfl)
    obtain ⟨angle, timing, -, interval, slack, counter, margin, still, -, -⟩ := h
    exact ⟨angle, timing, Nat.zero_le _, interval, slack, counter, margin, still, by simp [resyncShaft], nofun⟩
  | feederOut f => exact carried_takeFeederOut s f
  | level on =>
    rw [setLevel_eq]
    split
    · refine .trans ?_ (carried_startReform _ _)
      exact still ⟨rfl, rfl, rfl, rfl⟩
    · exact still ⟨rfl, rfl, rfl, rfl⟩
  | timing p valid => exact carried_applyTiming valid
  | floatGuard m up down =>
    refine carried_of_links (fun k => by cases k <;> rfl) id fun _ => ?_
    exact ⟨floatLimit_inRange up, floatLimit_inRange down, nofun⟩
  | margin n =>
    refine carried_of_links (fun k => by cases k <;> rfl) (fun h => ?_) (float_congr rfl)
    obtain ⟨angle, timing, speed, interval, slack, counter, -, rest⟩ := h
    exact ⟨angle, timing, speed, interval, slack, counter, Nat.min_le_right _ _, rest⟩
  | reopen b =>
    refine .trans ?_ (carried_raiseIf _ _ (by decide) _)
    exact still (by simp [floatView])
  | closeNow b =>
    refine .trans ?_ (carried_raise _ (by decide) _)
    exact still (by simp [floatView])
  | install b =>
    rw [install_eq]
    refine .trans ?_ (carried_startReform _ _)
    exact carried_cleared (by cases b <;> rfl) (by cases b <;> rfl) (by simp) (by cases b <;> rfl) (by simp)
  | discardOpen b opened =>
    have dropped : Carried s (dropQueue s) := by
      refine .trans ?_ (carried_raiseIf _ _ (by decide) _)
      exact still ⟨rfl, rfl, rfl, rfl⟩
    exact dropped.trans (carried_still (by simp) (by simp) (by simp) (by simp [floatView]))
  | resetPin ra rb =>
    unfold keepFixed
    split <;> exact carried_reset ⟨rfl, rfl⟩ rfl rfl
  | powerOn ra rb => exact carried_reset ⟨rfl, rfl⟩ rfl rfl
  | resetEnd a b x y =>
    have ended (k : Link) (c : Bool) {l : LinkState} : (Follows l → Follows (l.endReset c)) ∧
        (l.FlagsSound k → (l.endReset c).FlagsSound k) := link_congr k rfl rfl rfl rfl
    refine ⟨fun k => ?_, fun k => ?_, id, id⟩ <;> cases k
    exacts [(ended .loom x).1, (ended .design y).1, (ended .loom x).2, (ended .design y).2]
  | _ => 
    refine still ?_
    simp [floatView, drawFree, setShadow, clearFault, bringFeederIn, applyDrive]

/-- A microsecond (R3, R17, R19, R122). -/
theorem carried_tick (s : State) : Carried s (tick s) := by
  have counted : Carried s { s with shaft := s.shaft.countMicrosecond } := by
    refine carried_of_links (fun k => by cases k <;> rfl) (fun h => ?_) (float_congr rfl)
    obtain ⟨angle, timing, speed, interval, slack, counter, rest⟩ := h
    refine ⟨angle, timing, speed, ?_, slack, Nat.min_le_right _ _, rest⟩
    simp only [Shaft.countMicrosecond]
    split
    · exact Nat.min_le_right _ _
    · exact interval
  have still (x : State) : Carried x (tickStill x) := by
    unfold tickStill
    split
    · exact .refl x
    next n running =>
      split
      · exact carried_effect .stillTimer
      · refine carried_of_links (fun k => by cases k <;> rfl) (fun h => ?_) (float_congr rfl)
        obtain ⟨angle, timing, speed, interval, slack, counter, margin, motion, rest⟩ := h
        refine ⟨angle, timing, speed, interval, slack, counter, margin, ?_, rest⟩
        simpa [running] using motion
  have standstill (x : State) : Carried x (tickStandstill x) := by
    unfold tickStandstill
    split
    · exact .refl x
    · exact .refl x
    · split
      · exact carried_effect .firstStandstill
      · exact carried_still rfl rfl rfl rfl
    · split
      · exact carried_effect .secondStandstill
      · exact carried_still rfl rfl rfl rfl
  unfold tick
  split
  · exact .refl s
  · exact counted.trans ((still _).trans (standstill _))

/-- A completed burst of the load queue (R161). -/
theorem carried_finishQueueBurst (b : Burst) (s : State) : Carried s (finishQueueBurst b s) := by
  have placed (k : BankId) (y : Bank) (x : State) : Carried x (x.setBank k y) :=
    carried_still (by simp) (by simp) (by simp) (by simp [floatView])
  have entry (e : QueueEntry) (rest : List QueueEntry) (x : State) : Carried x (finishEntry e rest x) := by
    have marked := fun c => (carried_still (s := x) (t := { x.setBank e.bank (lineWritten e (x.bank e.bank)) with
      store.queue := rest }) (by simp) (by simp) (by simp) (by simp [floatView])).trans
        (carried_raiseIf c .design (e := .queueSpace) (by decide) _)
    unfold finishEntry
    dsimp only
    split
    · refine (marked (x.store.queue.length == 4)).trans (.trans (placed _ _ _) (carried_raise .design (e := .closeDone) (by decide) _))
    · exact marked _
  have advance (x : State) : Carried x (advanceQueue x) := by
    unfold advanceQueue
    split
    · exact .refl x
    · split
      · exact carried_still rfl rfl rfl rfl
      · exact entry ..
  have freed : Carried s (freePort { s with store.memory := writeBytes s.store.memory b.address b.data }) :=
    carried_still rfl rfl rfl rfl
  unfold finishQueueBurst
  dsimp only
  refine .trans ?_ (carried_grant _)
  split
  · exact freed
  · exact freed.trans (advance _)

/-- A property that attention, the flags and the ranges carry is kept by rows and time. -/
theorem kept_of_carried {P : State → Prop} (carries : ∀ s t, Carried s t → P s → P t) : Kept P where
  queues s c w h := carries s _ (carried_still rfl rfl rfl rfl) h
  wire s k b l moved h := carries s _ (carried_wire k b (List.mem_of_mem_take (i := 3) (by simpa using moved))) h
  closes s t c h := carries s t (carried_closes c) h
  effect s t e h := carries s t (carried_effect e) h
  tick s h := carries s _ (carried_tick s) h

/-- Every step keeps what attention, the flags and the ranges carry. -/
theorem step_of_carried {P : State → Prop} (carries : ∀ s t, Carried s t → P s → P t) (h : P s)
    (stepped : step s = .next t) : P t :=
  (kept_of_carried carries).step (fun x b _ hx => carries x _ (carried_finishQueueBurst b x) hx) h stepped

end Rows

/-- Settles O54: only NOTE and CLEAR EVENTS touch the NOTE flag, with the slot; every other event raises a flag of its own,
with attention. -/
theorem linksStaySound : Obligations.LinksStaySound := by
  unfold Obligations.LinksStaySound
  intro s t stepped
  refine ⟨fun follows => ?_, fun sound => ?_⟩
  · refine step_of_carried (P := State.AttentionFollows) (fun x y c h k _ => c.attention k (h k ?_)) follows stepped
    cases k <;> simp
  · exact step_of_carried (P := State.FlagsSound) (fun x y c h => ⟨c.flags .loom h.1, c.flags .design h.2⟩) sound stepped

/-- Settles O55: each operation on the tracker and on the committed state stays in the ranges. -/
theorem rangesKept : Obligations.RangesKept := by
  unfold Obligations.RangesKept
  intro s t stepped
  exact ⟨fun h => step_of_carried (P := fun x => x.shaft.InRange) (fun x y c => c.shaft) h stepped,
    fun h => step_of_carried (P := fun x => x.frame.FloatInRange) (fun x y c => c.float) h stepped⟩

/-- Settles O58: the law of the engine by the same lemma as a reset, the rest field by field. -/
theorem resetMeetsTheLaws : Obligations.ResetMeetsTheLaws := by
  unfold Obligations.ResetMeetsTheLaws
  have laws : Laws True True State.reset := laws_of_reset rfl rfl rfl rfl
  obtain ⟨engine, width, position⟩ := (laws_iff ..).mp laws
  have shaft : State.reset.shaft.InRange := by decide
  have drivers : State.reset.DriversFollow := by decide
  refine ⟨by decide, ⟨fun _ => by decide, nofun⟩, rfl, rfl, drivers, nofun, ?_, ⟨⟨rfl, rfl⟩, ⟨rfl, rfl⟩⟩, shaft,
    ⟨.inl rfl, .inl rfl, nofun⟩, engine, width trivial, position trivial, ?_⟩
  · intro k _
    cases k <;> rfl
  · refine ⟨?_, ?_, nofun⟩ <;> intro i x used <;> simp [State.reset, HarnessUnit.reset, HarnessTable.empty] at used

end Sys2Proof.Proofs
end

section
/-! PROOF. The answers of the links: what a busy link ignores, what a refusal leaves, the reply frame, and the checks
that come before a command's own rule. -/

namespace Sys2Proof.Proofs

open Sys2Proof.Machine

section Answers

variable {k : Link} {code : Byte} {s : State}

/-- A row with a command code is a command offered, or an unknown one. -/
theorem offered_or_unknown {i : Instr} (named : i.codeOf = some (k, code)) :
    (∃ o lo hi, commandOffer i = some (o, lo, hi)) ∨ ∃ p, i = .unknownCommand k code p := by
  cases i
  case unknownCommand =>
    cases named
    exact .inr ⟨_, rfl⟩
  case encoderCount | illegalStep | index | stillTimerExpiry | standstillHold | standstillRelease
    | releaseInputChange | forwardFrameComplete | reformCompletion | frameReadBurstDone | loadQueueBurstDone
    | readbackBurstDone | overLongLength | selectReleasedEarly | resetPin | powerOnReset | selectReleased | resetEnd =>
    cases named
  all_goals exact .inl ⟨_, _, _, rfl⟩

/-- The parameters of a well-formed row fit a transaction. -/
theorem wellFormed_params {i : Instr} (formed : i.wellFormed = true) : i.params.length ≤ maxParams := by
  simp only [Instr.wellFormed, Bool.and_eq_true, decide_eq_true_eq] at formed
  exact formed.1

/-- An unknown command that is well formed names no command. -/
theorem wellFormed_unknown {p : List Byte} (formed : (Instr.unknownCommand k code p).wellFormed = true) :
    namesCommand code = false ∧ p.length ≤ maxParams := by
  refine ⟨?_, wellFormed_params formed⟩
  simp only [Instr.wellFormed, Bool.and_eq_true, Bool.not_eq_true'] at formed
  exact formed.2

/-- A reply that says taken is no refusal and not BUSY. -/
theorem not_refused_of_saysTaken {r : Reply} (taken : saysTaken r = true) :
    ¬ ((∃ reason detail, r = .refused reason detail) ∨ r = .busy) := by
  rintro (⟨_, _, rfl⟩ | rfl) <;> cases taken

/-- The link that answered: its reply frame, in turnaround. -/
theorem link_answer (k : Link) (code : Byte) (r : Reply) (s : State) :
    (answer k code r s).link k = (s.link k).answer code r := by simp [answer]

/-- A command that passes the checks at the link is answered by its own rule, whatever its parameters say (R182). -/
theorem exec_answered {i : Instr} {o : Offer} {lo hi : Nat} (offered : commandOffer i = some (o, lo, hi))
    (named : i.codeOf = some (k, code)) (listens : s.listens k = true) (fits : i.params.length ≤ maxParams) :
    ∃ (r : Reply) (x : State), exec i s = .next (answer k code r x) ∧ (x = s ∨ saysTaken r = true) := by
  obtain ⟨k', code', own, named', row, rule⟩ := command_row offered
  cases named.symm.trans named'
  rw [row]
  rcases transact_cases k code o lo hi i.params own s with ⟨deaf, -⟩ | ⟨-, long, -⟩ | ⟨-, _, _, e⟩ | ⟨-, -, -, -, e⟩
  · cases listens.symm.trans deaf
  · exact absurd fits (Nat.not_le.mpr long)
  · exact ⟨_, s, by rw [e], .inl rfl⟩
  · refine ⟨_, _, by rw [e], ?_⟩
    rcases rule s with same | ⟨-, taken⟩
    · exact .inl same
    · exact .inr taken

end Answers

/-- Settles O22: a transaction on a link that does not listen is the state itself. -/
theorem busyLinkTakesNoCommand : Obligations.BusyLinkTakesNoCommand := by
  unfold Obligations.BusyLinkTakesNoCommand
  refine ⟨fun i k code s formed named deaf => ?_, fun k code n s long deaf => ?_, fun k code p s names => ?_,
    fun k code n s short => ?_⟩
  · rcases offered_or_unknown named with ⟨o, lo, hi, offered⟩ | ⟨p, rfl⟩
    · obtain ⟨own, row⟩ := exec_eq_transact named offered
      rw [row, transact_deaf deaf]
    · rw [exec_unknownCommand (wellFormed_unknown formed).1]
      simp [transactUnknown, deaf]
  · have arm : exec (.overLongLength k code n) s = execOverLongLength k code n s := rfl
    simp [arm, execOverLongLength, deaf, show ¬ n.toNat ≤ maxParams from Nat.not_le.mpr long]
  · have arm : exec (.unknownCommand k code p) s = execUnknownCommand k code p s := rfl
    simp [arm, execUnknownCommand, names]
  · have arm : exec (.overLongLength k code n) s = execOverLongLength k code n s := rfl
    simp [arm, execOverLongLength, show n.toNat ≤ maxParams from short]

/-- Settles O23: a rule that answers BUSY or REFUSED has left the state (`command_row`). -/
theorem refusedAndBusyDoNothing : Obligations.RefusedAndBusyDoNothing := by
  unfold Obligations.RefusedAndBusyDoNothing
  intro i k code s formed named listens
  rcases offered_or_unknown named with ⟨o, lo, hi, offered⟩ | ⟨p, rfl⟩
  · obtain ⟨r, x, row, same | taken⟩ := exec_answered offered named listens (wellFormed_params formed)
    · subst same
      exact ⟨r, _, row, by rw [link_answer]; rfl, by rw [link_answer]; rfl, fun _ => rfl⟩
    · exact ⟨r, _, row, by rw [link_answer]; rfl, by rw [link_answer]; rfl,
        fun refused => absurd refused (not_refused_of_saysTaken taken)⟩
  · obtain ⟨unnamed, short⟩ := wellFormed_unknown formed
    refine ⟨.refused .unknownCommand .none, _, exec_unknownCommand unnamed k p s, ?_, ?_, fun _ => ?_⟩ <;>
      rw [transactUnknown_own listens short]
    · rw [link_answer]; rfl
    · rw [link_answer]; rfl

section Frames

/-- The bytes clocked after an answer move the place alone, and the second ends the turnaround (R182, R183). -/
theorem passBytes_answered {l : LinkState} (turn : l.phase = .turnaround) (first : l.place = 0) (n : Nat) :
    LinkState.passByte^[n] l = { l with phase := if n < 2 then .turnaround else .reply, place := n } := by
  induction n with
  | zero =>
    obtain ⟨⟩ := l
    simp_all
  | succ n ih =>
    rw [Function.iterate_succ_apply', ih]
    by_cases h0 : n = 0
    · simp [LinkState.passByte, h0]
    · by_cases h1 : n = 1
      · simp [LinkState.passByte, h1]
      · simp [LinkState.passByte, show ¬ n < 2 by omega, show ¬ n + 1 < 2 by omega]

end Frames

/-- Settles O19: the fields of the answered link, and its frame byte by byte. -/
theorem answerFormsTheReply : Obligations.AnswerFormsTheReply := by
  unfold Obligations.AnswerFormsTheReply
  refine ⟨fun k code r s => ?_, fun d => ?_, by decide, by decide, fun reason detail => ?_, by decide⟩
  · have turn : ((s.link k).answer code r).phase = .turnaround := rfl
    have first : ((s.link k).answer code r).place = 0 := rfl
    simp only [link_answer]
    refine ⟨rfl, rfl, rfl, fun n l moved => ?_, fun reason detail e => by rw [e]; rfl, fun other => ?_, rfl, rfl, rfl,
      by simp [answer], by simp, by simp, by simp, by simp, by simp⟩
    · rw [passBytes_answered turn first] at moved
      subst moved
      refine ⟨rfl, ?_⟩
      by_cases h : n < 2 <;> simp [LinkState.sends, LinkState.dataOut, LinkState.answer, h]
    · cases r
      case refused reason detail => exact absurd rfl (other reason detail)
      all_goals rfl
  · simp [Reply.frame, Reply.status, Reply.reasonByte, Reply.data, u8, u16]
  · cases reason <;> cases detail <;>
      simp [Reply.frame, Reply.status, Reply.reasonByte, Reply.data, Reason.code, u8, u16]

section Checks

variable {s : State}

/-- A movement command that a check of R42 refuses. -/
theorem whenMovable_of_some {r : Reason} (own : State → State × Reply) (refused : s.moveRefusal = some r) :
    whenMovable own s = refuse r s := by simp [whenMovable, refused]

/-- A movement command that passes the checks of R42. -/
theorem whenMovable_of_movable (own : State → State × Reply) (rest : s.Movable) : whenMovable own s = own s := by
  simp [whenMovable, moveRefusal_eq_none_iff.mpr rest]

/-- The commands of R42 and R46, each behind the same checks. -/
theorem movementRow {i : Instr} {code : Byte} (listens : s.listens .loom = true)
    (moves : (∃ n, i = .stepBack .loom [n]) ∨ (∃ n, i = .stepForward .loom [n]) ∨
      (∃ p : List Byte, p.length = 5 ∧ i = .setPosition .loom p) ∨ i = .swapNow .loom [] ∨ i = .unload .loom [])
    (named : i.codeOf = some (.loom, code)) :
    ∃ own, exec i s = .next (answer .loom code (whenMovable own s).2 (whenMovable own s).1) := by
  rcases moves with ⟨n, rfl⟩ | ⟨n, rfl⟩ | ⟨p, five, rfl⟩ | rfl | rfl <;> cases named <;>
    refine ⟨_, congrArg Host.Outcome.next (transact_own listens ?_ rfl ?_ ?_)⟩ <;> simp [*, maxParams]

end Checks

/-- Settles O31: the five commands ask `moveRefusal` before their own rules. -/
theorem positionCommandsRefusedInOrder : Obligations.PositionCommandsRefusedInOrder := by
  unfold Obligations.PositionCommandsRefusedInOrder
  intro i code s listens moves named
  obtain ⟨own, row⟩ := movementRow listens moves named
  have refused (r : Reason) (h : s.moveRefusal = some r) :
      exec i s = .next (answer .loom code (.refused r .none) s) := by
    rw [row, whenMovable_of_some own h]
    rfl
  refine ⟨fun h => refused _ ?_, fun h => refused _ ?_, fun h moving => refused _ ?_⟩ <;>
    simp [State.moveRefusal, h]
  exact moving

/-- A byte above 1 names neither bank (R167). -/
theorem bankOf_eq_none {n : Nat} (neither : 1 < n) : bankOf n = none := by
  unfold bankOf
  split
  · omega
  · omega
  · rfl

/-- A bank command with a byte that names neither bank (R167). -/
theorem withBank_of_neither {p : List Byte} {s : State} (own : BankId → State → State × Reply) (neither : 1 < byteAt p 0) :
    withBank p own s = rangeAt 0 s := by simp [withBank, bankOf_eq_none neither]

/-- Settles O42: every command of the codes named asks for its bank first. -/
theorem bankByteCheckedFirst : Obligations.BankByteCheckedFirst := by
  unfold Obligations.BankByteCheckedFirst
  intro i k code o lo hi s named offered on listens shortest longest names neither
  cases i <;> cases named <;> cases offered
  case openArticle | reopen | defineScheme | defineWeave | defineFeeders | writeLine | closeArticle | arm | disarm
    | discardBank | readLine =>
    refine congrArg Host.Outcome.next ((transact_own listens (longest.trans (by decide)) on shortest longest).trans ?_)
    simp only [Instr.params] at neither
    rw [withBank_of_neither _ neither]
    rfl
  case readArticle =>
    refine congrArg Host.Outcome.next ((transact_own listens (longest.trans (by decide)) on shortest longest).trans ?_)
    simp only [Instr.params] at neither
    rw [readArticle, bankOf_eq_none neither]
    rfl
  all_goals exact absurd names (by decide)

end Sys2Proof.Proofs
end

section
/-! PROOF. The queue, the microsecond, the timers and the release inputs. -/

namespace Sys2Proof.Proofs

open Sys2Proof.Machine

/-- Settles O1: the first branch of `step`. -/
theorem stepTakesFrontCommand : Obligations.StepTakesFrontCommand := by
  unfold Obligations.StepTakesFrontCommand
  intro s c rest waiting
  simp [step, waiting]

section Timers

variable {s : State}

/-- Drivers that follow keep following where an event is raised. -/
theorem driversFollow_raise (k : Link) (e : Event) (h : s.DriversFollow) : (raise k e s).DriversFollow :=
  driversFollow_congr (by simp [driverView]) h

/-- The first standstill expiry writes the harness unit and one flag (R122). -/
theorem firstExpiry_fields :
    (firstExpiry s).DriversFollow ∧
      (firstExpiry s).harness = { s.harness with
        stage := .hold
        timer := if s.harness.drive.t2 = 0 then .stoppedByT2 else .toSecond (s.harness.drive.t2 * 1000000)
        driversOn := (firstExpiry s).harness.driversOn
        levels := Vector.replicate 8 (s.harness.drive.slots[s.harness.drive.standstillSlot]) } ∧
      (firstExpiry s).loom = { s.loom with
        flags := s.loom.flags ||| 0x100#16, attention := (firstExpiry s).loom.attention } := by
  refine ⟨driversFollow_raise _ _ (driversFollow_followDrivers _), ?_, rfl⟩
  have level : (firstExpiry s).harness.levels =
      Vector.replicate 8 (s.harness.drive.slots[s.harness.drive.standstillSlot]) := by
    ext i
    simp [firstExpiry, HarnessUnit.wantsLevel]
  rw [← level]
  rfl

/-- The second standstill expiry writes the harness unit and one flag (R122). -/
theorem secondExpiry_fields :
    (secondExpiry s).DriversFollow ∧
      (secondExpiry s).harness = { s.harness with
        stage := .release, timer := .stopped, driversOn := Vector.replicate 8 false
        levels := Vector.replicate 8 (s.harness.drive.slots[s.harness.drive.standstillSlot]) } ∧
      (secondExpiry s).loom = { s.loom with
        flags := s.loom.flags ||| 0x200#16, attention := (secondExpiry s).loom.attention } := by
  refine ⟨driversFollow_raise _ _ (driversFollow_followDrivers _), ?_, rfl⟩
  have level : (secondExpiry s).harness.levels =
      Vector.replicate 8 (s.harness.drive.slots[s.harness.drive.standstillSlot]) := by
    ext i
    simp [secondExpiry, HarnessUnit.wantsLevel]
  have off : (secondExpiry s).harness.driversOn = Vector.replicate 8 false := by
    ext i
    simp [secondExpiry, State.wantsDriver]
  rw [← level, ← off]
  rfl

/-- The expiries leave every other block (R122). -/
theorem expiry_keeps {t : State} (expired : t ∈ [firstExpiry s, secondExpiry s]) :
    t.shaft = s.shaft ∧ t.pick = s.pick ∧ t.frame = s.frame ∧ t.store = s.store ∧ t.design = s.design ∧
      t.inReset = s.inReset ∧ t.freeDraws = s.freeDraws ∧ t.pending = s.pending ∧ t.wires = s.wires := by
  simp only [List.mem_cons, List.not_mem_nil, or_false] at expired
  rcases expired with rfl | rfl <;> exact ⟨rfl, rfl, rfl, rfl, rfl, rfl, rfl, rfl, rfl⟩

/-- The still timer's microsecond moves the tracker alone (R3). -/
theorem tickStill_eq : tickStill s = { s with shaft := (tickStill s).shaft } := by
  unfold tickStill
  split
  · rfl
  · split <;> rfl

/-- The standstill timer's microsecond (R122): it runs on, or one of its expiries. -/
theorem tickStandstill_cases :
    ((s.harness.timer = .stopped ∨ s.harness.timer = .stoppedByT2) ∧ tickStandstill s = s) ∨
      (∃ n, s.harness.timer = .toFirst n ∧ 1 < n ∧
        tickStandstill s = { s with harness.timer := .toFirst (n - 1) }) ∨
      (∃ n, s.harness.timer = .toSecond n ∧ 1 < n ∧
        tickStandstill s = { s with harness.timer := .toSecond (n - 1) }) ∨
      (∃ n, s.harness.timer = .toFirst n ∧ n ≤ 1 ∧ tickStandstill s = firstExpiry s) ∨
      ∃ n, s.harness.timer = .toSecond n ∧ n ≤ 1 ∧ tickStandstill s = secondExpiry s := by
  cases h : s.harness.timer with
  | stopped => simp [tickStandstill, h]
  | stoppedByT2 => simp [tickStandstill, h]
  | toFirst n => by_cases last : n ≤ 1 <;> simp [tickStandstill, h, last, Nat.lt_of_not_le]
  | toSecond n => by_cases last : n ≤ 1 <;> simp [tickStandstill, h, last, Nat.lt_of_not_le]

/-- The microsecond of the two counters and of the still timer (R3, R17, R19). -/
theorem tickStill_counted :
    ∃ x, tickStill { s with shaft := s.shaft.countMicrosecond } = { s with shaft := x } ∧
      ((∀ n, s.shaft.stillTimer = some n → 1 < n) →
        x = { s.shaft.countMicrosecond with stillTimer := s.shaft.stillTimer.map fun n => n - 1 }) ∧
      ∀ n, s.shaft.stillTimer = some n → n ≤ 1 → x = { s.shaft.countMicrosecond with
        stillTimer := none, motion := .still, speed := 0, measuring := false, intervalRunning := false } := by
  refine ⟨_, tickStill_eq, fun runs => ?_, fun n now last => ?_⟩
  · cases now : s.shaft.stillTimer with
    | none => simp [tickStill, Shaft.countMicrosecond, now]
    | some n => simp [tickStill, Shaft.countMicrosecond, now, Nat.not_le.mpr (runs n now)]
  · simp [tickStill, Shaft.countMicrosecond, now, last, stillExpiry, Shaft.cancel]

/-- The microsecond of the standstill timer leaves every other block (R122). -/
theorem tickStandstill_keeps :
    (tickStandstill s).shaft = s.shaft ∧ (tickStandstill s).pick = s.pick ∧ (tickStandstill s).frame = s.frame ∧
      (tickStandstill s).store = s.store ∧ (tickStandstill s).design = s.design ∧
      (tickStandstill s).inReset = s.inReset ∧ (tickStandstill s).freeDraws = s.freeDraws ∧
      (tickStandstill s).pending = s.pending ∧ (tickStandstill s).wires = s.wires := by
  rcases tickStandstill_cases (s := s) with ⟨-, e⟩ | ⟨n, -, -, e⟩ | ⟨n, -, -, e⟩ | ⟨n, -, -, e⟩ | ⟨n, -, -, e⟩ <;> rw [e]
  case inr.inr.inr.inl => exact expiry_keeps (by simp)
  case inr.inr.inr.inr => exact expiry_keeps (by simp)
  all_goals exact ⟨rfl, rfl, rfl, rfl, rfl, rfl, rfl, rfl, rfl⟩

end Timers

/-- Settles O2: the still timer, then the standstill timer, each by its cases. -/
theorem idleStepIsOneMicrosecond : Obligations.IdleStepIsOneMicrosecond := by
  unfold Obligations.IdleStepIsOneMicrosecond
  intro s queue lines
  have idle : step s = .next (tick s) := by simp [step, queue, lines]
  refine ⟨fun reset => by rw [idle]; simp [tick, reset], fun awake => ?_⟩
  obtain ⟨x, counted, runs, expires⟩ := tickStill_counted (s := s)
  have ticked : tick s = tickStandstill { s with shaft := x } := by
    rw [← counted]
    simp [tick, awake]
  obtain ⟨shaft, pick, frame, store, design, reset, draws, pending, wires⟩ := tickStandstill_keeps (s := { s with shaft := x })
  refine ⟨_, idle.trans (congrArg _ ticked), fun h => shaft.trans (runs h), fun n now last => shaft.trans (expires n now last), ?_,
    ?_, ?_, ?_, ?_, pick, frame, store, design, reset, draws, pending.trans queue, wires.trans lines⟩
  · rintro (now | now) <;> simp [tickStandstill, now]
  · intro n now more
    simp [tickStandstill, now, Nat.not_le.mpr more]
  · intro n now last
    have e : tickStandstill { s with shaft := x } = firstExpiry { s with shaft := x } := by
      simp [tickStandstill, now, last]
    obtain ⟨drivers, harness, loom⟩ := firstExpiry_fields (s := { s with shaft := x })
    rw [e]
    exact ⟨drivers, rfl, loom⟩
  · intro n now more
    simp [tickStandstill, now, Nat.not_le.mpr more]
  · intro n now last
    have e : tickStandstill { s with shaft := x } = secondExpiry { s with shaft := x } := by
      simp [tickStandstill, now, last]
    obtain ⟨drivers, harness, loom⟩ := secondExpiry_fields (s := { s with shaft := x })
    rw [e]
    exact ⟨drivers, rfl, loom⟩

/-- Settles O9: the fields of each expiry, and the rows that find no timer running. -/
theorem timerExpiries : Obligations.TimerExpiries := by
  unfold Obligations.TimerExpiries
  intro s
  have still : exec .stillTimerExpiry s = .next (if s.shaft.stillTimer.isSome then stillExpiry s else s) := rfl
  have hold : exec .standstillHold s =
      .next (match s.harness.timer with | .toFirst _ => firstExpiry s | _ => s) := rfl
  have release : exec .standstillRelease s =
      .next (match s.harness.timer with | .toSecond _ => secondExpiry s | _ => s) := rfl
  refine ⟨fun n runs => by rw [still]; simp [runs, stillExpiry, Shaft.cancel], fun stopped => by rw [still]; simp [stopped],
    fun n runs => ⟨firstExpiry s, by rw [hold]; simp [runs], ?_⟩, fun n runs => ⟨secondExpiry s, by rw [release]; simp [runs], ?_⟩,
    fun other => ?_, fun other => ?_⟩
  · obtain ⟨-, harness, loom⟩ := firstExpiry_fields (s := s)
    exact ⟨harness, congrArg (·.flags) loom, rfl, rfl, rfl, rfl, rfl⟩
  · obtain ⟨-, harness, loom⟩ := secondExpiry_fields (s := s)
    exact ⟨harness, congrArg (·.flags) loom, rfl, rfl, rfl, rfl, rfl⟩
  · rw [hold]
    cases h : s.harness.timer <;> simp_all
  · rw [release]
    cases h : s.harness.timer <;> simp_all

/-- The level of a release input as the harness unit holds it (R120). -/
def inputLevel (s : State) : ReleaseInput → Bool
  | .ra => s.harness.ra
  | .rb => s.harness.rb

/-- An input that takes a level (R120): nothing where it is no change, else the drivers follow and the event is raised. -/
theorem setReleaseInput_eq (s : State) (input : ReleaseInput) (b : Bool) :
    setReleaseInput input b s = if inputLevel s input = b then s
      else raise .loom .releaseInputChange (followDrivers (trackReleaseInput input b s)) := by
  cases input <;> rfl

/-- Settles O10: an input that changes is written, the drivers follow and one flag is raised. -/
theorem releaseInputChangeRaisesEvent : Obligations.ReleaseInputChangeRaisesEvent := by
  unfold Obligations.ReleaseInputChangeRaisesEvent
  intro s input b
  have row : exec (.releaseInputChange input b) s =
      .next (if s.inReset then trackReleaseInput input b s else setReleaseInput input b s) := rfl
  rw [setReleaseInput_eq] at row
  cases awake : s.inReset
  · by_cases same : inputLevel s input = b
    · refine ⟨s, by simp [row, awake, same], ?_⟩
      cases input <;> simp_all [inputLevel]
    · refine ⟨_, by simp only [row, awake, same]; rfl, ?_⟩
      have drivers := driversFollow_raise .loom .releaseInputChange
        (driversFollow_followDrivers (trackReleaseInput input b s))
      have flag : ((raise .loom .releaseInputChange (followDrivers (trackReleaseInput input b s))).loom.flags =
          s.loom.flags ||| 0x400#16) := by cases input <;> rfl
      cases input <;> exact ⟨⟨rfl, rfl⟩, rfl, rfl, rfl, rfl, rfl, rfl, rfl, rfl, rfl, rfl, nofun,
        fun _ h => absurd h same, fun _ _ => ⟨flag, drivers⟩⟩
  · refine ⟨_, by rw [row, awake], ?_⟩
    cases input <;> simp [trackReleaseInput]

end Sys2Proof.Proofs
end

section
/-! PROOF. A count of the shaft and the entry to LOST. -/

namespace Sys2Proof.Proofs

open Sys2Proof.Machine

/-! ## Counts -/

/-- The standstill stage is RUN and its timer as a restart leaves it (R122). -/
def Restarted (s : State) : Prop := s.harness.stage = .run ∧ s.harness.timer = s.restartedTimer

section Restarts

variable {s t : State}

/-- A restart is seen in the harness unit and the engine state alone (R122). -/
theorem restarted_congr (harness : t.harness = s.harness) (engine : t.pick.engine = s.pick.engine) (h : Restarted s) :
    Restarted t := by
  rw [Restarted, State.restartedTimer, State.weaves, harness, engine]
  exact h

/-- After a restart of the standstill timer (R122). -/
theorem restarted_restartStandstill (s : State) : Restarted (restartStandstill s) := by
  simp [Restarted, State.restartedTimer, State.weaves]

/-- The completion of a re-form restarts the standstill timer or leaves it (R122). -/
theorem restarted_completeReform (h : Restarted s) : Restarted (completeReform s) := by
  unfold completeReform
  split
  · split
    next d _ _ _ c _ =>
      have taken : Restarted (takeReform d c s) := restarted_restartStandstill _
      exact restarted_congr (by simp) (by simp) taken
    · exact h
  · exact h

/-- Starting a re-form leaves the standstill timer, but where it completes at once (R106, R122). -/
theorem restarted_startReform (c : Cause) (h : Restarted s) : Restarted (startReform c s) := by
  unfold startReform
  split
  · unfold beginReform
    split
    · exact h
    · have begun (p : Position) : Restarted (beginFrame (.reform c) p false s.pick.counter (Machine.discard s)) :=
        restarted_congr (by simp) (by simp) h
      dsimp only
      split
      · exact restarted_completeReform (begun _)
      · exact begun _
  · exact h

/-- A count restarts the standstill timer, and what follows leaves it so (R122). -/
theorem restarted_shaftCount (dir : Direction) : Restarted (shaftCount dir s) := by
  have counted : Restarted (countShaft dir s) := restarted_restartStandstill _
  unfold shaftCount
  dsimp only
  split
  · cases dir with
    | forward =>
      change Restarted (countForward _)
      unfold countForward
      split
      · have latched (x : State) : Restarted (forwardLatch x) := restarted_restartStandstill _
        exact restarted_congr (s := forwardLatch { countShaft .forward s with shaft.offset := 0 }) (by simp) (by simp)
          (latched _)
      · exact restarted_congr (by simp) (by simp) counted
    | backward =>
      change Restarted (countBackward _)
      unfold countBackward
      dsimp only
      split
      · unfold reverseLatch
        dsimp only
        split
        · exact restarted_startReform _ (restarted_congr (by simp [countDown]) (by simp [countDown]) counted)
        · exact restarted_congr (s := countShaft .backward s) rfl rfl counted
      · exact restarted_congr (s := countShaft .backward s) rfl rfl counted
  · exact counted

end Restarts

/-- What a count makes of the angle, the motion state and the still timer (R1, R3). -/
theorem shaftCount_moves (dir : Direction) (s : State) :
    (shaftCount dir s).shaft.angle = angleAfter s.shaft.angle dir ∧ (shaftCount dir s).shaft.motion = motionOf dir ∧
      (shaftCount dir s).shaft.stillTimer = some (millis s.shaft.timing.stillTime) := by
  unfold shaftCount
  dsimp only
  split
  · cases dir <;> simp [countShaft]
  · simp [countShaft]

/-- A backward count leaves the weft gate closed (R99). -/
theorem shaftCount_gate (s : State) : (shaftCount .backward s).frame.gate = false := by
  have closed : (countShaft .backward s).frame.gate = false := by simp [countShaft]
  unfold shaftCount
  dsimp only
  split
  · unfold countBackward
    dsimp only
    split <;> simp [closed]
  · exact closed

/-- Settles O3: the count itself and what every latch and mark keeps (`shaftCount_keeps`). -/
theorem countMovesAngleAndMotion : Obligations.CountMovesAngleAndMotion := by
  unfold Obligations.CountMovesAngleAndMotion
  intro s dir awake
  obtain ⟨angle, motion, still⟩ := shaftCount_moves dir s
  obtain ⟨stage, timer⟩ := restarted_shaftCount (s := s) dir
  refine ⟨shaftCount dir s, exec_encoderCount s dir awake, by rw [angle]; cases dir <;> rfl, by rw [motion]; cases dir <;> rfl,
    still, stage, ?_, fun back => by rw [back, shaftCount_gate], ?_⟩
  · rw [timer]
    simp only [State.restartedTimer, State.weaves, shaftCount_keeps, DriveSettings.firstTime, Bool.and_eq_true, bne_iff_ne]
    by_cases h : s.pick.engine = .noArticle <;> by_cases h1 : s.harness.drive.t1 = 0 <;> simp [h, h1]
  · simp

/-! ## Entry to LOST -/

section Loss

variable {s t : State} (c : LossCause)

/-- Entry to LOST once the fault is reported: the feeder output and the gate off (R12, R98, R99). -/
def lossReported (s : State) : State :=
  weftOff (reportFault .shaftLost c { s with shaft := { s.shaft.cancel with reference := .lost, cause := c } })

/-- Entry to LOST by the engine state (R107, R177). -/
theorem loseShaft_eq :
    loseShaft c s = followDrivers (if s.pick.engine = .noArticle then lossReported c s else
      followStop { Machine.discard (lossReported c s) with pick.engine := .unsynchronised, frame.owed := some .reform }) := by
  unfold loseShaft lossReported
  simp only [weftOff, reportFault_keeps]
  split <;> rfl

/-- What the entry to LOST makes of the drivers and of nothing else in the harness unit (R124). -/
theorem loseShaft_harness :
    (loseShaft c s).DriversFollow ∧ (loseShaft c s).harness = { s.harness with
      driversOn := (loseShaft c s).harness.driversOn, levels := (loseShaft c s).harness.levels } := by
  rw [loseShaft_eq]
  refine ⟨driversFollow_followDrivers _, ?_⟩
  have kept : (lossReported c s).harness = s.harness := by simp [lossReported, weftOff]
  split <;> simp [followDrivers, kept]

/-- What the entry to LOST makes of the feeder output, the pending frame and the engine state (R98, R99, R107, R177). -/
theorem loseShaft_frame :
    (loseShaft c s).frame.output = none ∧ (loseShaft c s).frame.gate = false ∧
      (s.pick.engine ≠ .noArticle → (loseShaft c s).pick.engine = .unsynchronised ∧
        (loseShaft c s).frame.slot = .empty ∧ (loseShaft c s).frame.owed = some .reform) ∧
      (s.pick.engine = .noArticle → (loseShaft c s).pick.engine = .noArticle ∧
        (loseShaft c s).frame.owed = s.frame.owed) := by
  rw [loseShaft_eq]
  by_cases h : s.pick.engine = .noArticle <;> simp [h, lossReported, weftOff]

/-- The stop request after the entry to LOST (R173). -/
theorem loseShaft_stop (follows : s.StopFollows) : (loseShaft c s).pick.stopRequest = true := by
  rw [loseShaft_eq]
  split
  · have reported : (lossReported c s).pick.stopRequest = true := by
      cases h : s.pick.fault with
      | none => simp [lossReported, weftOff, reportFault, h, enterFirstFault]
      | some r => simp [lossReported, weftOff, reportFault, h, countLaterFault, follows]
    simpa using reported
  · simp

/-- The entry to LOST as the first fault (R170, R171). -/
theorem loseShaft_firstFault (empty : s.pick.fault = none) :
    (loseShaft c s).pick.fault = some
        { kind := .shaftLost, cause := c, counter := s.pick.counter, position := s.pick.position,
          angle := s.shaft.angle, laterCount := 0, laterKinds := .empty } ∧
      (loseShaft c s).loom.flags.getLsbD 0 = true ∧ (loseShaft c s).design.flags.getLsbD 0 = true := by
  rw [loseShaft_eq]
  split <;> simp [lossReported, weftOff, reportFault, empty, enterFirstFault, eventBit, eventNumber, Shaft.cancel]

/-- The entry to LOST as a later fault (R172). -/
theorem loseShaft_laterFault {r : FaultRecord} (held : s.pick.fault = some r) :
    (loseShaft c s).pick.fault = some
        { r with laterCount := min (r.laterCount + 1) 255, laterKinds := { r.laterKinds with shaftLost := true } } ∧
      (loseShaft c s).loom = s.loom ∧ (loseShaft c s).design = s.design := by
  rw [loseShaft_eq]
  split <;> simp [lossReported, weftOff, reportFault, held, countLaterFault, KindSet.insert]

/-- In LOST the policy RELEASE turns every driver off (R119, R124). -/
theorem driversOff_of_lost (follows : t.DriversFollow) (lost : t.shaft.reference = .lost)
    (release : t.harness.drive.policy = .release) : t.harness.driversOn = Vector.replicate 8 false := by
  ext i hi
  have off : ¬ t.DriverConditions ⟨i, hi⟩ := fun ⟨_, _, _, _, _, free⟩ => free ⟨lost, release⟩
  simpa using mt (follows ⟨i, hi⟩).1.mp off

/-- Drivers that follow are those of any state with the same conditions (R119, R121). -/
theorem drivers_of_same (follows : s.DriversFollow) (follows' : t.DriversFollow)
    (conditions : ∀ i, t.DriverConditions i ↔ s.DriverConditions i)
    (settings : t.harness.drive = s.harness.drive ∧ t.harness.stage = s.harness.stage) :
    t.harness.driversOn = s.harness.driversOn ∧ t.harness.levels = s.harness.levels := by
  refine ⟨?_, ?_⟩ <;> ext i hi
  · have on := (follows' ⟨i, hi⟩).1.trans ((conditions ⟨i, hi⟩).trans (follows ⟨i, hi⟩).1.symm)
    exact Bool.eq_iff_iff.mpr on
  · have level : t.harness.levels[i] = s.harness.levels[i] := by
      refine (follows' ⟨i, hi⟩).2.trans (Eq.trans ?_ (follows ⟨i, hi⟩).2.symm)
      simp only [settings]
    rw [level]

/-- Under HOLD the entry to LOST leaves the drivers as they were (R124). -/
theorem loseShaft_hold (hold : s.harness.drive.policy = .hold) (follows : s.DriversFollow) :
    (loseShaft c s).harness = s.harness := by
  obtain ⟨follows', harness⟩ := loseShaft_harness (s := s) c
  have conditions (i : Fin 8) : (loseShaft c s).DriverConditions i ↔ s.DriverConditions i := by
    obtain ⟨-, -, weaving, noArticle⟩ := loseShaft_frame (s := s) c
    by_cases h : s.pick.engine = .noArticle
    · simp [State.DriverConditions, noArticle h, h]
    · cases e : s.pick.engine <;> simp [State.DriverConditions, (weaving h).1, e, hold] at h ⊢
  obtain ⟨on, levels⟩ := drivers_of_same follows follows' conditions (by simp)
  rw [harness, on, levels]

end Loss

/-- Settles O8: both causes are `loseShaft`, whose parts are the lemmas above. -/
theorem shaftLossReachesEveryBlock : Obligations.ShaftLossReachesEveryBlock := by
  unfold Obligations.ShaftLossReachesEveryBlock
  intro s i c awake referenced cases
  obtain ⟨l, row⟩ : ∃ l, exec i s = .next (loseShaft c { s with shaft.lines := l }) := by
    rcases cases with ⟨rfl, rfl⟩ | ⟨rfl, rfl, above, below⟩
    · exact ⟨_, by rw [exec_illegalStep _ awake, illegalStep_of_referenced _ referenced]⟩
    · refine ⟨s.shaft.lines, ?_⟩
      have far : nearIndex s.shaft.timing.tolerance s.shaft.angle = false := by
        simp [nearIndex]
        omega
      rw [exec_index _ awake, takeIndex_far referenced far]
  refine ⟨_, row, ?_⟩
  obtain ⟨output, gate, weaving, noArticle⟩ := loseShaft_frame (s := { s with shaft.lines := l }) c
  obtain ⟨drivers, harness⟩ := loseShaft_harness (s := { s with shaft.lines := l }) c
  refine ⟨?_, ?_, ?_, ?_, output, gate, fun follows => loseShaft_stop c follows, fun empty => loseShaft_firstFault c empty,
    fun r held => loseShaft_laterFault c held, fun h => weaving (by simp [h]), noArticle, drivers, harness,
    fun release => driversOff_of_lost drivers ?_ ?_, fun hold follows => loseShaft_hold c hold follows, ?_⟩
  all_goals simp [loseShaft_shaft, Shaft.cancel]
  exact release

end Sys2Proof.Proofs
end

section
/-! PROOF. Commands of the loom link: UNLOAD, the feeders, LEVEL and the drive settings. -/

namespace Sys2Proof.Proofs

open Sys2Proof.Machine

section Loom

variable {s : State} {p : List Byte}

/-- A command of the loom link with as many parameters as it carries is answered by its own rule (R182). -/
theorem transact_loom (code : Byte) (n : Nat) (own : State → State × Reply) (listens : s.listens .loom = true)
    (carries : p.length = n) (fits : n ≤ maxParams) :
    transact .loom code .loomOnly n n p own s = answer .loom code (own s).2 (own s).1 :=
  transact_own listens (carries.le.trans fits) rfl carries.ge carries.le

/-- The flags of a link after an event on it (R192). -/
theorem getLsbD_raise (k : Link) (e : Event) (n : Nat) (s : State) :
    ((raise k e s).link k).flags.getLsbD n = ((s.link k).flags.getLsbD n || (eventBit k e).getLsbD n) := by simp

/-- The flags of a link after an event that is raised where a condition holds (R192). -/
theorem getLsbD_raiseIf (c : Bool) (k : Link) (e : Event) (n : Nat) (s : State) :
    ((raiseIf c k e s).link k).flags.getLsbD n = ((s.link k).flags.getLsbD n || (c && (eventBit k e).getLsbD n)) := by
  cases c <;> simp

/-! ## UNLOAD -/

/-- UNLOAD on a loom link that listens, with the loom at rest (R46). -/
theorem exec_unload (listens : s.listens .loom = true) (rest : s.Movable) :
    exec (.unload .loom []) s = .next (answer .loom 0x27 (.done []) (unloadArticle s)) := by
  refine congrArg Host.Outcome.next ((transact_loom 0x27 0 _ listens rfl (by decide)).trans ?_)
  rw [whenMovable_of_movable _ rest]
  rfl

/-- A bank that wove, was ARMED or RETIRED is READY after UNLOAD (R46). -/
theorem state_unloaded (b : Bank) :
    b.unloaded.state = (match b.state with | .weaving | .armed | .retired => .ready | x => x) := by
  cases h : b.state <;> simp [Bank.unloaded, h]

/-- After UNLOAD a RETIRED bank has no retained position (R46). -/
theorem retained_unloaded {b : Bank} (retired : b.state = .retired) : b.unloaded.record.bind (·.retained) = none := by
  cases h : b.record <;> simp [Bank.unloaded, retired, h]

/-- The banks after UNLOAD (R46). -/
theorem bank_unloadArticle (b : BankId) : (unloadArticle s).bank b = (s.bank b).unloaded := by
  cases b <;> simp

end Loom

/-- Settles O36: the fields of `unloadArticle`. -/
theorem unloadEndsWeaving : Obligations.UnloadEndsWeaving := by
  unfold Obligations.UnloadEndsWeaving
  intro s listens rest
  refine ⟨_, exec_unload listens rest, ?_⟩
  have off : (unloadArticle s).harness.driversOn = Vector.replicate 8 false := by
    ext i
    simp [unloadArticle, standstillOff, State.wantsDriver, State.weaves, weftOff]
  have disarmed := getLsbD_raiseIf (s.store.bankA.state == .armed || s.store.bankB.state == .armed) .design .disarmed 9
  refine ⟨by simp, by simp, ?_, fun b => by rw [bank_unloadArticle]; exact state_unloaded _,
    fun b retired => by rw [bank_unloadArticle]; exact retained_unloaded retired, ?_, by simp, by simp, ?_, ?_, ?_, ?_, ?_, off,
    ?_, ?_, ?_, ?_, ?_, ?_, ?_, ?_, ?_, ?_, ?_, by simp, ?_, by simp, by simp, by simp⟩
  case refine_2 => exact (disarmed _).trans (by simp [standstillOff, weftOff, eventBit, eventNumber])
  all_goals simp [unloadArticle, standstillOff, weftOff, Selection.empty]

/-! ## Feeders -/

section Feeders

variable {s : State}

/-- A byte 1–8 names a feeder (R86). -/
theorem feederOf_of_val {n : Nat} {f : Fin 8} (names : n = f.val + 1) : feederOf n = some f := by
  simp [feederOf, names]

/-- No other byte names a feeder (R86). -/
theorem feederOf_outside {n : Nat} (outside : n = 0 ∨ 8 < n) : feederOf n = none :=
  dif_neg (by omega)

/-- The feeder that re-resolution finds: the primary if available, else the alternate if available (R97). -/
theorem reResolve_eq (e : FeederEntry) (available : Vector Bool 8) :
    reResolve (some e) available =
      if available[e.primary] then some e.primary else e.alternate.filter fun a => available[a] := by
  unfold reResolve tryFeeders
  dsimp only
  split
  · rfl
  · cases e.alternate with
    | none => rfl
    | some a => cases h : available[a] <;> simp [Option.filter, h]

/-- FEEDER OUT of the feeder that the output names (R97). -/
theorem takeFeederOut_of_output {f : Fin 8} {r : OutputRecord} (output : s.frame.output = some f)
    (record : s.frame.outputRecord = some r) :
    takeFeederOut f s = reResolveOutput r { s with frame.available := s.frame.available.set f false } := by
  simp [takeFeederOut, output, record]

/-- FEEDER OUT and FEEDER IN on a loom link that listens (R86). -/
theorem exec_feeder (b : Byte) (listens : s.listens .loom = true) :
    exec (.feederOut .loom [b]) s = .next (answer .loom 0x29 (withFeeder b.toNat takeFeederOut s).2
        (withFeeder b.toNat takeFeederOut s).1) ∧
      exec (.feederIn .loom [b]) s = .next (answer .loom 0x2A (withFeeder b.toNat bringFeederIn s).2
        (withFeeder b.toNat bringFeederIn s).1) :=
  ⟨congrArg _ (transact_loom 0x29 1 _ listens rfl (by decide)), congrArg _ (transact_loom 0x2A 1 _ listens rfl (by decide))⟩

/-- Re-resolution to none reports WEFT UNAVAILABLE (R97, R171, R172). -/
theorem reResolveOutput_none {r : OutputRecord} (out : reResolve r.entry s.frame.available = none) :
    reResolveOutput r s = reportFault .weftUnavailable .none (setOutput none (some r) s) := by
  simp [reResolveOutput, out]

/-- Re-resolution to a feeder reports no fault (R97). -/
theorem reResolveOutput_some {r : OutputRecord} {f : Fin 8} (found : reResolve r.entry s.frame.available = some f) :
    reResolveOutput r s = raiseIf (some f != r.resolved) .loom .feederSubstituted (setOutput (some f) (some r) s) := by
  simp [reResolveOutput, found]

/-- Re-resolution writes of the frame builder the output and its record (R97). -/
theorem reResolveOutput_frame (r : OutputRecord) :
    (reResolveOutput r s).frame =
      { s.frame with output := reResolve r.entry s.frame.available, outputRecord := some r } := by
  cases h : reResolve r.entry s.frame.available with
  | none => simp [reResolveOutput_none h, setOutput]
  | some f => simp [reResolveOutput_some h, setOutput]

end Feeders

/-- Settles O37: FEEDER IN writes the flag, FEEDER OUT is `reResolveOutput` where the output names the feeder. -/
theorem feederOutAndIn : Obligations.FeederOutAndIn := by
  unfold Obligations.FeederOutAndIn
  intro b s listens
  obtain ⟨rowOut, rowIn⟩ := exec_feeder b listens
  refine ⟨fun outside => ?_, fun f names => ⟨?_, fun other => ?_, fun r e output record entry => ?_⟩⟩
  · rw [rowOut, rowIn]
    simp [withFeeder, feederOf_outside outside, rangeAt]
  · rw [rowIn, withFeeder, feederOf_of_val names]
    rfl
  · rw [rowOut, withFeeder, feederOf_of_val names]
    simp [done, takeFeederOut, other]
  · have taken : exec (.feederOut .loom [b]) s = .next (answer .loom 0x29 (.done []) (takeFeederOut f s)) := by
      rw [rowOut, withFeeder, feederOf_of_val names]
      rfl
    refine ⟨_, taken, ?_⟩
    rw [takeFeederOut_of_output output record]
    have frame := reResolveOutput_frame (s := { s with frame.available := s.frame.available.set f false }) r
    refine ⟨by rw [frame, ← record], by rw [frame, entry]; exact reResolve_eq _ _, fun gone empty => ?_, fun x gone held => ?_,
      fun found => ?_, by simp, by simp, by simp, by simp, by simp, by simp⟩
    · rw [frame] at gone
      rw [reResolveOutput_none gone, reportFault_none _ _ _ (by simpa [setOutput] using empty)]
      exact ⟨by simp [enterFirstFault], _, rfl, rfl, rfl, rfl, rfl⟩
    · rw [frame] at gone
      rw [reResolveOutput_none gone, reportFault_some _ _ _ x (by simpa [setOutput] using held)]
      exact ⟨_, rfl, rfl, rfl, rfl⟩
    · rw [frame] at found ⊢
      obtain ⟨g, found⟩ := Option.ne_none_iff_exists'.mp found
      have bit := getLsbD_raiseIf (some g != r.resolved) .loom .feederSubstituted 12
      rw [reResolveOutput_some found]
      refine ⟨by simp [setOutput], (bit _).trans ?_⟩
      rw [show (reResolve r.entry _) = some g from found]
      simp [setOutput, eventBit, eventNumber]

/-! ## LEVEL -/

/-- A re-form that starts at once with hooks to shift, its descriptor as the state before gives it (R52, R106). -/
theorem beginReform_desc {s : State} (c : Cause) {p : Position} (at_ : s.pick.position = some p)
    (hooks : s.harness.live.hooks ≠ 0) :
    (∃ d, (beginReform c s).frame.slot.desc = some d ∧ d.kind = .reform c ∧ d.position = p ∧ d.level = s.frame.level ∧
        d.pickValue = s.pick.counter ∧ d.swap = false) ∧
      (beginReform c s).frame.latched = s.frame.latched ∧ (beginReform c s).pick.history = s.pick.history ∧
      (beginReform c s).store.bankA = s.store.bankA ∧ (beginReform c s).store.bankB = s.store.bankB := by
  rw [beginReform_of_hooks s c p at_ hooks]
  obtain ⟨d, desc, made⟩ := beginFrame_desc (Machine.discard s) (.reform c) p false s.pick.counter
  exact ⟨⟨d, desc, by rw [made]; rfl, by rw [made]; rfl, by rw [made]; simp [State.describe], by rw [made]; rfl,
    by rw [made]; rfl⟩, by simp, by simp, by simp, by simp⟩

/-- Settles O38: the flag, then the re-form of R68 by the engine and the shaft. -/
theorem levelCommandsSetTheFlag : Obligations.LevelCommandsSetTheFlag := by
  unfold Obligations.LevelCommandsSetTheFlag
  intro on s listens
  refine ⟨setLevel on s, ?_, ?_⟩
  · cases on
    · exact congrArg _ (transact_loom 0x2C 0 _ listens rfl (by decide))
    · exact congrArg _ (transact_loom 0x2B 0 _ listens rfl (by decide))
  · rw [setLevel_eq]
    refine ⟨by split <;> simp, by split <;> simp, by split <;> simp, fun noArticle => by simp [State.weaves, noArticle],
      fun weaving away => ?_, fun p weaving referenced at_ hooks => ?_⟩
    · rw [if_pos (by simpa [State.weaves] using weaving), startReform_of_not_referenced { s with frame.level := on } _ away]
    · rw [if_pos (by simpa [State.weaves] using weaving), startReform_of_referenced { s with frame.level := on } _ referenced]
      exact beginReform_desc (s := { s with frame.level := on }) .reform at_ hooks

/-! ## Drive settings -/

section Drive

variable {p : List Byte}

/-- The first slot number above 3 of a run of fields (R121). -/
theorem badSlot_eq_some {f i n : Nat} (from_ : i ≤ f) (below : f < i + n) (bad : 3 < byteAt p f)
    (first : ∀ g, i ≤ g → g < f → byteAt p g ≤ 3) : badSlot p i n = some f := by
  induction n generalizing i with
  | zero => omega
  | succ n ih =>
    rw [badSlot]
    by_cases here : i = f
    · rw [here, if_pos bad]
    · rw [if_neg (Nat.not_lt.mpr (first i le_rfl (by omega)))]
      exact ih (by omega) (by omega) fun g hg => first g (by omega)

/-- Slot numbers in range (R121). -/
theorem badSlot_eq_none {i n : Nat} (good : ∀ g, i ≤ g → g < i + n → byteAt p g ≤ 3) : badSlot p i n = none := by
  induction n generalizing i with
  | zero => rfl
  | succ n ih =>
    rw [badSlot, if_neg (Nat.not_lt.mpr (good i le_rfl (by omega)))]
    exact ih fun g hg hl => good g (by omega) (by omega)

/-- A slot number in range is taken as it is (R121). -/
theorem slotAt_val {i : Nat} (good : byteAt p i ≤ 3) : (slotAt p i).val = byteAt p i :=
  Nat.mod_eq_of_lt (by omega)

/-- The settings of SET DRIVE whose fields are all in range (R121). -/
theorem driveOf_eq_ok (good : ∀ g, 4 ≤ g → g ≤ 12 → byteAt p g ≤ 3) (policy : byteAt p 17 ≤ 1) :
    driveOf p = .ok
      { slots := Vector.ofFn fun i => BitVec.ofNat 4 (byteAt p i.val)
        runSlots := Vector.ofFn fun c => slotAt p (4 + c.val)
        standstillSlot := slotAt p 12, t1 := min (wordAt p 13) 255, t2 := min (wordAt p 15) 255
        policy := if byteAt p 17 = 0 then .hold else .release } := by
  have named : lossPolicyOf (byteAt p 17) = some (if byteAt p 17 = 0 then .hold else .release) := by
    generalize byteAt p 17 = n at policy
    interval_cases n <;> rfl
  have slots : badSlot p 4 9 = none := badSlot_eq_none fun g hg hl => good g hg (by omega)
  simp [driveOf, slots, named]

variable {s : State} {d : DriveSettings}

/-- What new settings make of the standstill timer (R123, log 17). -/
theorem timerAfterSettings_cases :
    (∀ n, s.harness.stage = .run → s.harness.timer = .toFirst n → timerAfterSettings s d =
        (if d.t1 = 0 then .stopped else .toFirst (d.t1 * 100000))) ∧
      (∀ n, s.harness.stage = .hold → s.harness.timer = .toFirst n ∨ s.harness.timer = .toSecond n →
        timerAfterSettings s d =
        (if d.t2 = 0 then .stoppedByT2 else if d.t1 = 0 then .stopped else .toSecond (d.t2 * 1000000))) ∧
      (s.harness.timer = .stopped → s.harness.drive.t1 = 0 → s.harness.stage ≠ .release →
        s.pick.engine ≠ .noArticle → d.t1 ≠ 0 → timerAfterSettings s d = .toFirst (d.t1 * 100000)) ∧
      (s.harness.timer = .stopped → s.harness.drive.t1 ≠ 0 ∨ s.pick.engine = .noArticle ∨ d.t1 = 0 →
        timerAfterSettings s d = .stopped) ∧
      (s.harness.timer = .stoppedByT2 → timerAfterSettings s d = .stoppedByT2) ∧
      (s.harness.stage = .release → timerAfterSettings s d = s.harness.timer) := by
  refine ⟨fun n run first => ?_, fun n hold runs => ?_, fun stopped was stage weaves now => ?_, fun stopped why => ?_,
    fun stopped => ?_, fun release => ?_⟩
  · simp [timerAfterSettings, run, first, DriveSettings.firstTime]
  · by_cases h2 : d.t2 = 0 <;> by_cases h1 : d.t1 = 0 <;> rcases runs with runs | runs <;>
      simp [timerAfterSettings, hold, runs, DriveSettings.holdTimer, DriveSettings.secondTime, h1, h2]
  · cases h : s.harness.stage <;> simp_all [timerAfterSettings, timerFromStop, State.weaves, DriveSettings.firstTime]
  · rcases why with why | why | why <;> cases h : s.harness.stage <;>
      simp [timerAfterSettings, stopped, h, timerFromStop, State.weaves, why]
  · cases h : s.harness.stage <;> simp [timerAfterSettings, stopped, h]
  · simp [timerAfterSettings, release]

/-- SET DRIVE on a loom link that listens (R121). -/
theorem exec_setDrive (listens : s.listens .loom = true) (carries : p.length = 18) :
    exec (.setDrive .loom p) s = .next (answer .loom 0x2E (setDrive p s).2 (setDrive p s).1) :=
  congrArg _ (transact_loom 0x2E 18 _ listens carries (by decide))

end Drive

/-- Settles O40: `driveOf` field by field, and the timer by `timerAfterSettings_cases`. -/
theorem setDriveTakesAllSettings : Obligations.SetDriveTakesAllSettings := by
  unfold Obligations.SetDriveTakesAllSettings
  intro p s listens carries
  rw [exec_setDrive listens carries]
  refine ⟨fun f from_ below bad first => ?_, fun good policy => ?_, fun good policy => ?_⟩
  · have slots : badSlot p 4 9 = some f := badSlot_eq_some from_ (by omega) bad first
    have failed : driveOf p = .error f := by simp [driveOf, slots]
    simp [setDrive, failed, rangeAt]
  · have named : lossPolicyOf (byteAt p 17) = none := by
      unfold lossPolicyOf
      split <;> simp_all
    have slots : badSlot p 4 9 = none := badSlot_eq_none fun g hg hl => good g hg (by omega)
    have failed : driveOf p = .error 15 := by simp [driveOf, slots, named]
    simp [setDrive, failed, rangeAt]
  · have taken := driveOf_eq_ok good policy
    generalize settings : DriveSettings.mk _ _ _ _ _ _ = d at taken
    obtain ⟨run, hold, restart, stays, byT2, release⟩ := timerAfterSettings_cases (s := s) (d := d)
    refine ⟨applyDrive d s, by simp [setDrive, taken, done], ?_⟩
    have slot (c : Fin 8) : (slotAt p (4 + c.val)).val = byteAt p (4 + c.val) := slotAt_val (good _ (by omega) (by omega))
    have standstill : (slotAt p 12).val = byteAt p 12 := slotAt_val (good _ (by omega) (by omega))
    refine ⟨fun i => ?_, fun c => ?_, ?_, ?_, ?_, ?_, driversFollow_followDrivers _, rfl, run, hold, restart, stays, byT2,
      release, rfl, rfl, rfl, rfl, rfl, rfl, rfl, rfl, rfl, rfl⟩ <;> simp [applyDrive, ← settings, slot, standstill]

end Sys2Proof.Proofs
end

section
/-! PROOF. What later operations leave of the flags, the fault record and the stop request: flags stay raised, a first
fault stays with its moment, and its later kinds only grow (R172, R192). PIECE DONE is raised by none of them (R33). -/

namespace Sys2Proof.Proofs

open Sys2Proof.Machine

/-- A fault record as later reports leave it: its first fault, and no kind of later fault less (R172). -/
structure SameFault (r r' : FaultRecord) : Prop where
  kind : r'.kind = r.kind
  cause : r'.cause = r.cause
  counter : r'.counter = r.counter
  position : r'.position = r.position
  angle : r'.angle = r.angle
  lateFrame : r.laterKinds.lateFrame = true → r'.laterKinds.lateFrame = true
  weftUnavailable : r.laterKinds.weftUnavailable = true → r'.laterKinds.weftUnavailable = true
  floatLimit : r.laterKinds.floatLimit = true → r'.laterKinds.floatLimit = true

theorem SameFault.refl (r : FaultRecord) : SameFault r r := ⟨rfl, rfl, rfl, rfl, rfl, id, id, id⟩

theorem SameFault.trans {r r' r'' : FaultRecord} (h : SameFault r r') (h' : SameFault r' r'') : SameFault r r'' :=
  ⟨h'.kind.trans h.kind, h'.cause.trans h.cause, h'.counter.trans h.counter, h'.position.trans h.position,
    h'.angle.trans h.angle, h'.lateFrame ∘ h.lateFrame, h'.weftUnavailable ∘ h.weftUnavailable,
    h'.floatLimit ∘ h.floatLimit⟩

/-- What operations that follow leave of flags, fault record and stop request. -/
structure Later (s t : State) : Prop where
  flags : ∀ k n, (s.link k).flags.getLsbD n = true → (t.link k).flags.getLsbD n = true
  fault : ∀ r, s.pick.fault = some r → ∃ r', t.pick.fault = some r' ∧ SameFault r r'
  stop : s.pick.fault.isSome = true → s.pick.stopRequest = true → t.pick.stopRequest = true
  piece : t.loom.flags.getLsbD 6 = s.loom.flags.getLsbD 6

section Relation

variable {s t u : State}

theorem Later.refl (s : State) : Later s s := ⟨fun _ _ => id, fun r h => ⟨r, h, .refl r⟩, fun _ => id, rfl⟩

/-- A record held stays held. -/
theorem Later.isSome (h : Later s t) (held : s.pick.fault.isSome = true) : t.pick.fault.isSome = true := by
  obtain ⟨r, e⟩ := Option.isSome_iff_exists.mp held
  obtain ⟨r', e', -⟩ := h.fault r e
  simp [e']

theorem Later.trans (h : Later s t) (h' : Later t u) : Later s u where
  flags k n set := h'.flags k n (h.flags k n set)
  fault r e := by
    obtain ⟨r', e', same⟩ := h.fault r e
    obtain ⟨r'', e'', same'⟩ := h'.fault r' e'
    exact ⟨r'', e'', same.trans same'⟩
  stop held asserted := h'.stop (h.isSome held) (h.stop held asserted)
  piece := h'.piece.trans h.piece

/-- The links, the record and the stop request stay. -/
theorem later_still (loom : t.loom = s.loom) (design : t.design = s.design) (fault : t.pick.fault = s.pick.fault)
    (stop : t.pick.stopRequest = s.pick.stopRequest) : Later s t where
  flags k n h := by cases k <;> simp_all [State.link]
  fault r e := ⟨r, fault.trans e, .refl r⟩
  stop _ h := stop.trans h
  piece := by rw [loom]

/-- An event but PIECE DONE (R192). -/
theorem later_raise (k : Link) {e : Event} (other : e ≠ .pieceDone) (s : State) : Later s (raise k e s) where
  flags k' n h := by cases k <;> cases k' <;> simp_all [raise, State.setLink, State.link]
  fault r held := ⟨r, by simpa using held, .refl r⟩
  stop _ h := by simpa using h
  piece := by
    cases k
    · have bit := getLsbD_raise .loom e 6 s
      have apart : (eventBit .loom e).getLsbD 6 = false := by
        cases e
        case pieceDone => exact absurd rfl other
        all_goals rfl
      rw [apart, Bool.or_false] at bit
      exact bit
    · rfl

theorem later_raiseIf (c : Bool) (k : Link) {e : Event} (other : e ≠ .pieceDone) (s : State) : Later s (raiseIf c k e s) := by
  cases c
  · exact .refl s
  · exact later_raise k other s

theorem later_raiseBoth {e : Event} (other : e ≠ .pieceDone) (s : State) : Later s (raiseBoth e s) :=
  (later_raise .loom other s).trans (later_raise .design other _)

end Relation

section Operations

variable (s : State)

theorem later_reportFault (kind : FaultKind) (cause : LossCause) : Later s (reportFault kind cause s) := by
  cases h : s.pick.fault with
  | none =>
    rw [reportFault_none s kind cause h]
    refine .trans ?_ (later_raiseBoth (by decide) _)
    exact ⟨fun _ _ => id, by simp [h], by simp [h], rfl⟩
  | some r =>
    rw [reportFault_some s kind cause r h]
    refine ⟨fun _ _ => id, fun x held => ?_, fun _ => id, rfl⟩
    cases h.symm.trans held
    refine ⟨_, rfl, rfl, rfl, rfl, rfl, rfl, ?_, ?_, ?_⟩ <;> cases kind <;> simp +contextual [KindSet.insert]

theorem later_raiseResolution (r : Option (Fin 8) × Bool) : Later s (raiseResolution r s) := by
  unfold raiseResolution
  split
  · exact later_reportFault ..
  · exact later_raiseIf _ _ (by decide) s

theorem later_setOutput (f : Option (Fin 8)) (r : Option OutputRecord) : Later s (setOutput f r s) :=
  later_still rfl rfl rfl rfl

theorem later_reResolveOutput (r : OutputRecord) : Later s (reResolveOutput r s) := by
  unfold reResolveOutput
  dsimp only
  split
  · exact (later_setOutput ..).trans (later_reportFault ..)
  · exact (later_setOutput ..).trans (later_raiseIf _ _ (by decide) _)

theorem later_presentFeeder (f : Option (Fin 8)) (d : Descriptor) : Later s (presentFeeder f d s) := by
  unfold presentFeeder
  dsimp only
  split
  · exact later_setOutput ..
  · exact later_reResolveOutput ..

theorem later_weftSelect : Later s (weftSelect s) := by
  unfold weftSelect
  split
  · exact later_setOutput ..
  · split
    · exact .refl s
    · split
      · exact later_presentFeeder ..
      · exact later_setOutput ..

theorem later_gateMarks (on off : Bool) : Later s (gateMarks on off s) :=
  later_still (by simp) (by simp) (by simp) (by simp)

/-! ## The position -/

theorem later_refuseSwap (b : BankId) : Later s (refuseSwap b s) :=
  (later_still (by simp) (by simp) (by simp) (by simp)).trans (later_raiseBoth (by decide) _)

theorem later_commitSwap (q : Position) : Later s (commitSwap q s) := by
  refine .trans ?_ (later_raiseBoth (by decide) _)
  exact later_still (by simp) (by simp) (by simp) (by simp)

theorem later_undoSwap (q : Position) : Later s (undoSwap q s) := by
  refine .trans ?_ (later_raiseBoth (by decide) _)
  exact later_still (by simp) (by simp) (by simp) (by simp)

theorem later_plainWrap (q : Position) : Later s (plainWrap q s) :=
  (later_still rfl rfl rfl rfl : Later s (setPosition q.wrapped s)).trans (later_raiseBoth (by decide) _)

theorem later_wrapNow (q : Position) : Later s (wrapNow q s) := by
  unfold wrapNow
  split
  · exact later_plainWrap s _
  · exact (later_refuseSwap s _).trans (later_plainWrap _ _)
  · exact later_commitSwap s _

theorem later_forwardMove (decided : Option Bool) : Later s (forwardMove decided s) := by
  unfold forwardMove
  split
  · exact .refl s
  · split
    · exact later_still rfl rfl rfl rfl
    · split
      · exact later_wrapNow s _
      · exact later_commitSwap s _
      · exact later_plainWrap s _

theorem later_addRecord (kind : RecordKind) (f : Option (Fin 8)) (sub : Bool) (n : Nat) :
    Later s (addRecord kind f sub n s) :=
  later_still (by simp) (by simp) (by simp) (by simp)

/-! ## Frames -/

theorem later_grant : Later s (grant s) := later_still (by simp) (by simp) (by simp) (by simp)

theorem later_discard : Later s (discard s) := later_still (by simp) (by simp) (by simp) (by simp)

theorem later_beginFrame (kind : FrameKind) (q : Position) (swap : Bool) (n : Nat) :
    Later s (beginFrame kind q swap n s) := by
  unfold beginFrame
  dsimp only
  split
  · refine .trans ?_ ((later_raiseResolution _ _).trans (later_still rfl rfl rfl rfl))
    exact later_still rfl rfl rfl rfl
  · refine .trans ?_ ((later_raiseResolution _ _).trans (later_grant _))
    exact later_still rfl rfl rfl rfl

theorem later_completeForward : Later s (completeForward s) :=
  later_still (by simp) (by simp) (by simp) (by simp)

theorem later_beginForward (q : Position) (swap : Bool) : Later s (beginForward q swap s) := by
  unfold beginForward
  dsimp only
  split
  · exact (later_beginFrame ..).trans (later_completeForward _)
  · exact later_beginFrame ..

theorem later_startForward : Later s (startForward s) := by
  unfold startForward
  split
  · split
    · exact .refl s
    · split
      · exact later_beginForward s _ _
      · split
        · exact later_beginForward s _ _
        · exact (later_refuseSwap s _).trans (later_beginForward _ _ _)
        · exact later_beginForward s _ _
  · exact .refl s

theorem later_restartStandstill : Later s (restartStandstill s) :=
  later_still (by simp) (by simp) (by simp) (by simp)

theorem later_takeReform (d : Descriptor) (cause : Cause) : Later s (takeReform d cause s) := by
  refine .trans ?_ ((later_presentFeeder _ _ d).trans ((later_addRecord _ _ _ _ _).trans
    ((later_raise _ (by decide) _).trans (later_restartStandstill _))))
  exact later_still rfl rfl rfl rfl

theorem later_completeReform : Later s (completeReform s) := by
  unfold completeReform
  split
  · split
    · exact (later_takeReform ..).trans (later_startForward _)
    · exact .refl s
  · exact .refl s

theorem later_beginReform (cause : Cause) : Later s (beginReform cause s) := by
  unfold beginReform
  split
  · exact .refl s
  next q _ =>
    have start := (later_discard s).trans (later_beginFrame (discard s) (.reform cause) q false s.pick.counter)
    dsimp only
    split
    · exact start.trans (later_completeReform _)
    · exact start

theorem later_startReform (cause : Cause) : Later s (startReform cause s) := by
  unfold startReform
  split
  · exact later_beginReform s cause
  · exact later_still rfl rfl rfl rfl

/-! ## Latches and marks -/

theorem later_latchTracker : Later s (latchTracker s) := by
  refine .trans ?_ (later_raiseIf _ .loom (e := .marginLow) (by decide) _)
  exact later_still rfl rfl rfl rfl

theorem later_latchFloat (d : Descriptor) : Later s (latchFloat d s) :=
  later_still (by simp) (by simp) (by simp) (by simp)

theorem later_crossMarks : Later s (crossMarks s) := by
  unfold crossMarks
  dsimp only
  refine .trans ?_ (later_gateMarks _ _ _)
  split
  · refine .trans ?_ (later_weftSelect _)
    split
    · exact later_startForward s
    · exact .refl s
  · split
    · exact later_startForward s
    · exact .refl s

end Operations

/-! ## A re-form that starts or waits -/

section Reforms

variable {s : State} {p : Position} {c : Cause}

/-- With hooks to shift, a re-form that starts is in the slot; the shed, the feeder output, the history and the banks stay
(R106). -/
theorem beginReform_pending (at_ : s.pick.position = some p) (hooks : s.harness.live.hooks ≠ 0) :
    (beginReform c s).Holds (.reform c) p ∧ (beginReform c s).pick.reforming = true ∧
      (beginReform c s).pick.history = s.pick.history ∧ (beginReform c s).pick.exchangeNote = s.pick.exchangeNote ∧
      (beginReform c s).frame.latched = s.frame.latched ∧ (beginReform c s).frame.latchedDesc = s.frame.latchedDesc ∧
      (beginReform c s).frame.output = s.frame.output ∧ (beginReform c s).store.bankA = s.store.bankA ∧
      (beginReform c s).store.bankB = s.store.bankB := by
  obtain ⟨holds, reforming, latched⟩ := beginReform_holds s c p at_ hooks
  refine ⟨holds, reforming, ?_⟩
  rw [beginReform_of_hooks s c p at_ hooks]
  simp

/-- A re-form that starts or waits leaves the committed state cleared (R80). -/
theorem committed_startReform (cleared : s.frame.committed = []) : (startReform c s).frame.committed = [] := by
  have begun (q : Position) :
      (beginFrame (.reform c) q false s.pick.counter (Machine.discard s)).frame.committed = [] := by simp [cleared]
  have completed {x : State} (h : x.frame.committed = []) : (completeReform x).frame.committed = [] := by
    unfold completeReform
    split
    · split
      · simp [takeReform]
      · exact h
    · exact h
  unfold startReform
  split
  · unfold beginReform
    split
    · exact cleared
    · dsimp only
      split
      · exact completed (begun _)
      · exact begun _
  · exact cleared

/-- Beside a bank that is not ARMED no start of a forward frame touches the banks (R35–R37). -/
theorem bank_startForward_free (k : BankId) (at_ : s.pick.position = some p)
    (free : (s.bank (otherBank p.bank)).state ≠ .armed) : (startForward s).bank k = s.bank k := by
  have plain : s.wrapOutcome p.bank = .plain := by simp [State.wrapOutcome, free]
  unfold startForward
  rw [at_]
  dsimp only
  rw [plain]
  split
  · split <;> simp
  · rfl

/-- Beside a bank that is not ARMED a re-form that starts or waits leaves the banks (R106, R107). -/
theorem bank_startReform_free (k : BankId) (at_ : s.pick.position = some p)
    (free : (s.bank (otherBank p.bank)).state ≠ .armed) : (startReform c s).bank k = s.bank k := by
  unfold startReform
  split
  · unfold beginReform
    rw [at_]
    dsimp only
    split
    · unfold completeReform
      split
      · split
        · rw [bank_startForward_free (p := p) k (by simpa using at_) (by simpa using free)]
          simp
        · simp
      · simp
    · simp
  · rfl

/-- A re-form that starts or waits leaves the banks where it waits or there are hooks to shift (R106, R107). -/
theorem bank_startReform_pending (k : BankId) (at_ : s.pick.position = some p)
    (pending : s.shaft.reference ≠ .referenced ∨ s.harness.live.hooks ≠ 0) : (startReform c s).bank k = s.bank k := by
  by_cases referenced : s.shaft.reference = .referenced
  · obtain ⟨-, -, -, -, -, -, -, a, b⟩ := beginReform_pending (c := c) at_ (pending.resolve_left (absurd referenced))
    rw [startReform_of_referenced s c referenced, bank_congr a b]
  · rw [startReform_of_not_referenced s c referenced]
    rfl

end Reforms

end Sys2Proof.Proofs
end

section
/-! PROOF. Moves of the position by one pick (R24, R25, R35–R37, R40), for the latches and for the position commands. -/

namespace Sys2Proof.Proofs

open Sys2Proof.Machine

section Picks

variable {a : Article} {line step : Nat}

theorem nextPick_within (h : step + 1 < a.len line) : a.nextPick line step = some (line, step + 1) := if_pos h

theorem nextPick_nextLine (last : a.len line ≤ step + 1) (h : line + 1 < a.height) :
    a.nextPick line step = some (line + 1, 0) := by
  rw [Article.nextPick, if_neg (Nat.not_lt.mpr last), if_pos h]

theorem nextPick_wrap (last : a.len line ≤ step + 1) (h : a.height ≤ line + 1) : a.nextPick line step = none := by
  rw [Article.nextPick, if_neg (Nat.not_lt.mpr last), if_neg (Nat.not_lt.mpr h)]

theorem prevPick_within (h : step ≠ 0) : a.prevPick line step = some (line, step - 1) := if_pos (Nat.pos_of_ne_zero h)

theorem prevPick_prevLine (h : line ≠ 0) : a.prevPick line 0 = some (line - 1, a.len (line - 1) - 1) := by
  simp [Article.prevPick, Nat.pos_of_ne_zero h]

theorem prevPick_wrap : a.prevPick 0 0 = none := rfl

end Picks

section Forward

variable {s t : State} {p : Position} {d : Option Bool}

/-! ## One pick forward -/

theorem forwardMove_within (at_ : s.pick.position = some p) (h : p.step + 1 < (s.article p.bank).len p.line) :
    forwardMove d s = setPosition { p with step := p.step + 1 } s := by simp [forwardMove, at_, nextPick_within h]

theorem forwardMove_nextLine (at_ : s.pick.position = some p) (last : (s.article p.bank).len p.line ≤ p.step + 1)
    (h : p.line + 1 < (s.article p.bank).height) :
    forwardMove d s = setPosition { p with line := p.line + 1, step := 0 } s := by
  simp [forwardMove, at_, nextPick_nextLine last h]

/-- A wrap by the swap decision taken before, or by the one to take now (R35–R37). -/
def wrapBy (d : Option Bool) (p : Position) (s : State) : State :=
  match d with
  | none => wrapNow p s
  | some true => commitSwap p s
  | some false => plainWrap p s

/-- The end of the repeat (R24, R35–R37). -/
theorem forwardMove_wrap (at_ : s.pick.position = some p) (last : (s.article p.bank).len p.line ≤ p.step + 1)
    (h : (s.article p.bank).height ≤ p.line + 1) : forwardMove d s = wrapBy d p s := by
  rcases d with _ | _ | _ <;> simp [forwardMove, at_, nextPick_wrap last h, wrapBy]

/-- A wrap that finds the other bank ARMED and fitting swaps (R35, R36). -/
theorem wrapNow_swap (armed : (s.bank (otherBank p.bank)).state = .armed) (fits : s.fits (otherBank p.bank) = true) :
    wrapNow p s = commitSwap p s := by simp [wrapNow, State.wrapOutcome, armed, fits]

/-- A wrap that finds no ARMED bank stays within the article (R24). -/
theorem wrapNow_plain (free : (s.bank (otherBank p.bank)).state ≠ .armed) : wrapNow p s = plainWrap p s := by
  simp [wrapNow, State.wrapOutcome, free]

/-- A wrap that finds the other bank ARMED and too wide refuses the swap (R37). -/
theorem wrapNow_refused (armed : (s.bank (otherBank p.bank)).state = .armed) (wide : s.fits (otherBank p.bank) = false) :
    wrapNow p s = plainWrap p (refuseSwap (otherBank p.bank) s) := by simp [wrapNow, State.wrapOutcome, armed, wide]

/-- A committed swap, with fresh alternation and committed state and the exchange note (R36). -/
theorem commitSwap_swapped (p : Position) (s : State) :
    (commitSwap p s).Swapped p ∧ (commitSwap p s).frame.alternation = Vector.replicate 8 .primaryNext ∧
      (commitSwap p s).frame.committed = [] ∧ (commitSwap p s).pick.exchangeNote = true := by
  refine ⟨⟨by simp [commitSwap, Position.first], ?_, ?_, fun a held => ?_, ?_, ?_⟩, ?_, ?_, ?_⟩
  · rw [bank_commitSwap]
    rfl
  · rw [other_commitSwap]
    rfl
  · rw [bank_commitSwap] at held
    obtain ⟨b, -, made⟩ := Option.map_eq_some_iff.mp (held : Option.map _ _ = some a)
    rw [← made]
  all_goals simp [commitSwap, eventBit, eventNumber, freshAlternation]

/-- A swap stays committed where the position and the banks stay and flags stay raised. -/
theorem Swapped.later (h : s.Swapped p) (position : t.pick.position = s.pick.position) (banks : ∀ k, t.bank k = s.bank k)
    (flags : ∀ k n, (s.link k).flags.getLsbD n = true → (t.link k).flags.getLsbD n = true) : t.Swapped p := by
  obtain ⟨at_, retired, weaving, retained, loom, design⟩ := h
  exact ⟨position.trans at_, by rw [banks]; exact retired, by rw [banks]; exact weaving,
    fun a held => retained a (banks p.bank ▸ held), flags .loom 3 loom, flags .design 2 design⟩

/-- A wrap within the article (R24, R26, R28). -/
theorem plainWrap_wrapped (p : Position) (s : State) :
    (plainWrap p s).pick.position = some { bank := p.bank, line := 0, step := 0, rep := min (p.rep + 1) 65535 } ∧
      (plainWrap p s).loom.flags.getLsbD 2 = true ∧ (plainWrap p s).design.flags.getLsbD 1 = true := by
  simp [plainWrap, Position.wrapped, maxRepeat, eventBit, eventNumber]

/-- A refused swap (R37). -/
theorem refuseSwap_refused (b : BankId) (s : State) :
    ((refuseSwap b s).bank b).state = .ready ∧ (refuseSwap b s).loom.flags.getLsbD 4 = true ∧
      (refuseSwap b s).design.flags.getLsbD 3 = true := by
  rw [bank_refuseSwap]
  simp [refuseSwap, eventBit, eventNumber]

/-- A wrap within the article leaves the banks (R24). -/
theorem bank_plainWrap (k : BankId) : (plainWrap p s).bank k = s.bank k := by simp [plainWrap, State.bank]

end Forward

section Backward

variable {s t : State} {p : Position}

/-! ## One pick back -/

theorem backwardMove_within (at_ : s.pick.position = some p) (h : p.step ≠ 0) :
    backwardMove s = setPosition { p with step := p.step - 1 } s := by simp [backwardMove, at_, prevPick_within h]

theorem backwardMove_prevLine (at_ : s.pick.position = some p) (first : p.step = 0) (h : p.line ≠ 0) :
    backwardMove s =
      setPosition { p with line := p.line - 1, step := (s.article p.bank).len (p.line - 1) - 1 } s := by
  simp [backwardMove, at_, first, prevPick_prevLine h]

/-- The start of the repeat with no swap to undo: the last pick with one repeat less (R25). -/
theorem backwardMove_wrap (at_ : s.pick.position = some p) (first : p.step = 0) (start : p.line = 0)
    (none_ : p.rep ≠ 0 ∨ (s.bank (otherBank p.bank)).state ≠ .retired) :
    backwardMove s = setPosition (s.wrappedBack p) s := by
  have due : s.undoDue p = false := by
    simp only [State.undoDue, Bool.and_eq_false_imp]
    rcases none_ with rep | state
    · simp [rep]
    · simp [state]
  simp [backwardMove, at_, first, start, prevPick_wrap, due]

/-- The first pick of all beside a RETIRED bank (R40). -/
theorem backwardMove_undo (at_ : s.pick.position = some p) (first : p.step = 0) (start : p.line = 0) (rep : p.rep = 0)
    (retired : (s.bank (otherBank p.bank)).state = .retired) :
    backwardMove s = if s.fits (otherBank p.bank) then undoSwap p s
      else setPosition (s.wrappedBack p) (raiseBoth .swapRefused s) := by
  have due : s.undoDue p = true := by simp [State.undoDue, first, start, rep, retired, prevPick_wrap]
  simp [backwardMove, at_, first, start, prevPick_wrap, due]

/-- Where the first pick has a swap to undo that fits, the cause of the re-form is UNDO (R29). -/
theorem undoes_iff_fits (at_ : s.pick.position = some p) (first : p.step = 0) (start : p.line = 0) (rep : p.rep = 0)
    (retired : (s.bank (otherBank p.bank)).state = .retired) : s.undoes = s.fits (otherBank p.bank) := by
  simp [State.undoes, at_, State.undoDue, first, start, rep, retired, prevPick_wrap]

/-- An undone swap, with fresh alternation and committed state and the exchange note (R40). -/
theorem undoSwap_undone {r : Retained}
    (retained : (s.bank (otherBank p.bank)).record.bind (·.retained) = some r) :
    (undoSwap p s).pick.position = some { bank := otherBank p.bank, line := r.line, step := r.step, rep := r.rep } ∧
      ((undoSwap p s).bank p.bank).state = .armed ∧ ((undoSwap p s).bank (otherBank p.bank)).state = .weaving ∧
      ((undoSwap p s).bank (otherBank p.bank)).record.bind (·.retained) = none ∧
      (undoSwap p s).pick.exchangeNote = true ∧ (undoSwap p s).frame.alternation = Vector.replicate 8 .primaryNext ∧
      (undoSwap p s).frame.committed = [] ∧ (undoSwap p s).loom.flags.getLsbD 5 = true ∧
      (undoSwap p s).design.flags.getLsbD 4 = true := by
  refine ⟨by simp [undoSwap, retained], by rw [bank_undoSwap]; rfl, by rw [other_undoSwap]; rfl, ?_, ?_⟩
  · rw [other_undoSwap]
    cases h : (s.bank (otherBank p.bank)).record <;> simp [h]
  · simp [undoSwap, eventBit, eventNumber, freshAlternation]

end Backward

end Sys2Proof.Proofs
end

section
/-! PROOF. The commands that move the position (R42–R45) and the reverse latches (R10, R29, R40). -/

namespace Sys2Proof.Proofs

open Sys2Proof.Machine

section Moves

variable {s y : State} {c : Cause}

/-- A command that moves the position cancels the measurement, and its re-form keeps what it moved (R17, R42). -/
@[simp] theorem finishMove_keeps :
    (finishMove c y).shaft.speed = 0 ∧ (finishMove c y).shaft.measuring = false ∧
      (finishMove c y).shaft.intervalRunning = false ∧ (finishMove c y).shaft.angle = y.shaft.angle ∧
      (finishMove c y).shaft.offset = y.shaft.offset ∧ (finishMove c y).shaft.timing = y.shaft.timing ∧
      (finishMove c y).pick.position = y.pick.position ∧ (finishMove c y).pick.counter = y.pick.counter ∧
      (finishMove c y).pick.target = y.pick.target ∧ (finishMove c y).pick.engine = y.pick.engine ∧
      (finishMove c y).harness.live = y.harness.live ∧ (finishMove c y).harness.drive = y.harness.drive ∧
      (finishMove c y).frame.available = y.frame.available ∧ (finishMove c y).frame.guard = y.frame.guard ∧
      (finishMove c y).frame.alternation = y.frame.alternation ∧
      (finishMove c y).store.memory = y.store.memory ∧ (finishMove c y).store.queue = y.store.queue := by
  simp [finishMove, Shaft.cancel]

/-- What follows the move leaves flags raised. -/
theorem later_finishMove : Later y (finishMove c y) := by
  refine .trans ?_ (later_startReform { y with shaft := y.shaft.cancel } c)
  exact later_still rfl rfl rfl rfl

theorem finishMove_owed (away : y.shaft.reference ≠ .referenced) :
    finishMove c y = { y with shaft := y.shaft.cancel, frame.owed := some c } :=
  startReform_of_not_referenced { y with shaft := y.shaft.cancel } c away

/-- The re-form of a move with hooks to shift, in the slot (R106). -/
theorem finishMove_pending {p : Position} (referenced : y.shaft.reference = .referenced) (at_ : y.pick.position = some p)
    (hooks : y.harness.live.hooks ≠ 0) :
    (finishMove c y).Holds (.reform c) p ∧ (finishMove c y).pick.reforming = true ∧
      (finishMove c y).pick.history = y.pick.history ∧ (finishMove c y).pick.exchangeNote = y.pick.exchangeNote ∧
      (finishMove c y).frame.latched = y.frame.latched ∧ (finishMove c y).frame.latchedDesc = y.frame.latchedDesc ∧
      (finishMove c y).frame.output = y.frame.output ∧ (finishMove c y).store.bankA = y.store.bankA ∧
      (finishMove c y).store.bankB = y.store.bankB := by
  have started : finishMove c y = beginReform c { y with shaft := y.shaft.cancel } :=
    startReform_of_referenced { y with shaft := y.shaft.cancel } c referenced
  rw [started]
  exact beginReform_pending (s := { y with shaft := y.shaft.cancel }) at_ hooks

theorem committed_finishMove (cleared : y.frame.committed = []) : (finishMove c y).frame.committed = [] :=
  committed_startReform (s := { y with shaft := y.shaft.cancel }) cleared

theorem bank_finishMove_free {p : Position} (k : BankId) (at_ : y.pick.position = some p)
    (free : (y.bank (otherBank p.bank)).state ≠ .armed) : (finishMove c y).bank k = y.bank k :=
  bank_startReform_free (s := { y with shaft := y.shaft.cancel }) k at_ free

theorem bank_finishMove_weaving {p : Position} (at_ : y.pick.position = some p) :
    (finishMove c y).bank p.bank = y.bank p.bank := by
  unfold finishMove startReform
  split
  · exact bank_beginReform { y with shaft := y.shaft.cancel } c at_
  · rfl

theorem bank_finishMove_pending {p : Position} (k : BankId) (at_ : y.pick.position = some p)
    (pending : y.shaft.reference ≠ .referenced ∨ y.harness.live.hooks ≠ 0) : (finishMove c y).bank k = y.bank k :=
  bank_startReform_pending (s := { y with shaft := y.shaft.cancel }) k at_ pending

/-- A command of the loom link behind the checks of R42, with the loom at rest. -/
theorem transact_movable {p : List Byte} (code : Byte) (n : Nat) (own : State → State × Reply)
    (listens : s.listens .loom = true) (rest : s.Movable) (carries : p.length = n) (fits : n ≤ maxParams) :
    transact .loom code .loomOnly n n p (whenMovable own) s = answer .loom code (own s).2 (own s).1 := by
  rw [transact_loom code n _ listens carries fits, whenMovable_of_movable own rest]

end Moves

/-! ## SET POSITION -/

/-- Settles O33: `movePosition` by its two checks, then `finishMove`. -/
theorem setPositionMovesThePosition : Obligations.SetPositionMovesThePosition := by
  unfold Obligations.SetPositionMovesThePosition
  intro p q s carries listens rest at_
  have row : exec (.setPosition .loom p) s = .next (answer .loom 0x23
      (movePosition (wordAt p 0) (byteAt p 2) (wordAt p 3) s).2 (movePosition (wordAt p 0) (byteAt p 2) (wordAt p 3) s).1) :=
    congrArg _ (transact_movable 0x23 5 _ listens rest carries (by decide))
  rw [row]
  refine ⟨fun above => ?_, fun line above => ?_, fun ⟨line, step⟩ => ?_⟩
  · simp [movePosition, at_, above, rangeAt]
  · simp [movePosition, at_, Nat.not_le.mpr line, above, rangeAt]
  · let q' : Position := { bank := q.bank, line := wordAt p 0, step := byteAt p 2, rep := wordAt p 3 }
    refine ⟨finishMove .set (setPosition q' s), by
      simp [movePosition, at_, Nat.not_le.mpr line, Nat.not_le.mpr step, done, q'], ?_⟩
    obtain ⟨speed, measuring, -, angle, offset, -, position, counter, target, engine, live, -, -, -, -, memory, queue⟩ :=
      finishMove_keeps (c := .set) (y := setPosition q' s)
    refine ⟨position, counter, target, engine.trans rest.1, speed, measuring, angle, offset, live, memory, queue,
      fun away => ?_, fun referenced hooks => ?_⟩
    · rw [finishMove_owed (y := setPosition q' s) away]
      exact ⟨rfl, rfl⟩
    · obtain ⟨holds, -, history, -, latched, -, output, a, b⟩ :=
        finishMove_pending (c := .set) (y := setPosition q' s) referenced rfl hooks
      exact ⟨holds, a, b, latched, history, output⟩

/-! ## SWAP NOW -/

/-- A swapped bank keeps its position where it has a record (R36, R45). -/
theorem retained_commitSwap {s : State} {p : Position} (record : (s.bank p.bank).record.isSome = true) :
    ((commitSwap p s).bank p.bank).record.bind (·.retained) = some { line := p.line, step := p.step, rep := p.rep } := by
  obtain ⟨a, held⟩ := Option.isSome_iff_exists.mp record
  rw [bank_commitSwap]
  simp [held]

/-- Settles O35: `swapNow` by its checks, then the committed swap and its re-form. -/
theorem swapNowChangesTheBank : Obligations.SwapNowChangesTheBank := by
  unfold Obligations.SwapNowChangesTheBank
  intro p s listens rest at_
  have row : exec (.swapNow .loom []) s = .next (answer .loom 0x26 (swapNow s).2 (swapNow s).1) :=
    congrArg _ (transact_movable 0x26 0 _ listens rest rfl (by decide))
  rw [row]
  refine ⟨fun ready armed => ?_, fun waits => ?_⟩
  · simp [swapNow, at_, ready, armed, refuse]
  · have offered : ¬ ((s.bank (otherBank p.bank)).state ≠ .ready ∧ (s.bank (otherBank p.bank)).state ≠ .armed) := by tauto
    refine ⟨fun i wide => ?_, fun fits record => ⟨finishMove .swap (commitSwap p s), ?_, ?_⟩⟩
    · simp [swapNow, at_, State.widthFailure, wide, offered]
    · have narrow : s.widthFailure (otherBank p.bank) = none := Option.isNone_iff_eq_none.mp fits
      simp [swapNow, at_, narrow, offered, done]
    · obtain ⟨speed, measuring, -, -, -, -, position, counter, -, -, -, -, -, -, alternation, -, -⟩ :=
        finishMove_keeps (c := .swap) (y := commitSwap p s)
      obtain ⟨⟨at', retired, weaving, -, loom, design⟩, fresh, cleared, note⟩ := commitSwap_swapped p s
      have free : ((commitSwap p s).bank (otherBank (otherBank p.bank))).state ≠ .armed := by
        rw [otherBank_otherBank, retired]
        decide
      have banks (k : BankId) : (finishMove .swap (commitSwap p s)).bank k = (commitSwap p s).bank k :=
        bank_finishMove_free k at' free
      refine ⟨position.trans at', by rw [banks]; exact retired, by rw [banks]; exact weaving,
        by rw [banks]; exact retained_commitSwap record, alternation.trans fresh, committed_finishMove cleared,
        later_finishMove.flags .loom 3 loom, later_finishMove.flags .design 2 design, counter.trans (by simp), speed,
        measuring, fun away => ?_, fun referenced hooks => ?_⟩
      · rw [finishMove_owed (by simpa using away)]
        exact ⟨rfl, note⟩
      · obtain ⟨holds, -, -, exchange, latched, -⟩ :=
          finishMove_pending (c := .swap) (y := commitSwap p s) (by simpa using referenced) at' (by simpa using hooks)
        exact ⟨exchange.trans note, latched.trans (by simp), holds⟩

end Sys2Proof.Proofs
end

section
/-! PROOF. STEP BACK and STEP FORWARD (R43), n picks by one move after another. -/

namespace Sys2Proof.Proofs

open Sys2Proof.Machine

section Steps

variable {s : State} {p : Position}

/-- Moves keep a position (R23). -/
theorem exists_forwardMoves (n : Nat) (at_ : ∃ q, s.pick.position = some q) :
    ∃ q, (forwardMoves n s).pick.position = some q := by
  induction n generalizing s with
  | zero => exact at_
  | succ n ih =>
    refine ih ?_
    obtain ⟨q, at_⟩ := at_
    unfold forwardMove
    simp only [at_]
    split
    · exact ⟨_, rfl⟩
    · simp only [wrapNow]
      split
      · exact ⟨_, (plainWrap_wrapped q s).1⟩
      · exact ⟨_, (plainWrap_wrapped q _).1⟩
      · exact ⟨_, (commitSwap_swapped q s).1.1⟩

/-- Moves keep a position (R23). -/
theorem exists_backwardMoves (n : Nat) (at_ : ∃ q, s.pick.position = some q) :
    ∃ q, (backwardMoves n s).pick.position = some q := by
  induction n generalizing s with
  | zero => exact at_
  | succ n ih =>
    refine ih ?_
    obtain ⟨q, at_⟩ := at_
    unfold backwardMove
    simp only [at_]
    split
    · exact ⟨_, rfl⟩
    · split
      · split
        · exact ⟨_, rfl⟩
        · exact ⟨_, rfl⟩
      · exact ⟨_, rfl⟩

/-- Moves back within the line (R25). -/
theorem backwardMoves_within {n : Nat} (at_ : s.pick.position = some p) (within : n ≤ p.step) :
    (backwardMoves n s).pick.position = some { p with step := p.step - n } := by
  induction n generalizing s p with
  | zero => exact at_
  | succ n ih =>
    rw [backwardMoves, backwardMove_within at_ (by omega), ih rfl (show n ≤ p.step - 1 by omega)]
    simp [Nat.sub_sub, Nat.add_comm]

/-- Moves forward within the line (R24). -/
theorem forwardMoves_within {n : Nat} (at_ : s.pick.position = some p)
    (within : p.step + n < (s.article p.bank).len p.line) :
    (forwardMoves n s).pick.position = some { p with step := p.step + n } := by
  induction n generalizing s p with
  | zero => exact at_
  | succ n ih =>
    rw [forwardMoves, forwardMove_within at_ (by omega), ih rfl]
    · simp [Nat.add_assoc, Nat.add_comm 1 n]
    · change p.step + 1 + n < (s.article p.bank).len p.line
      omega

/-- STEP BACK and STEP FORWARD on a loom link that listens, with the loom at rest (R43). -/
theorem exec_step (b : Byte) (listens : s.listens .loom = true) (rest : s.Movable) :
    exec (.stepBack .loom [b]) s = .next (answer .loom 0x21
        (unlessReforming (stepBack (max 1 (min 64 b.toNat))) s).2 (unlessReforming (stepBack (max 1 (min 64 b.toNat))) s).1) ∧
      exec (.stepForward .loom [b]) s = .next (answer .loom 0x22
        (unlessReforming (stepForward (max 1 (min 64 b.toNat))) s).2
        (unlessReforming (stepForward (max 1 (min 64 b.toNat))) s).1) :=
  ⟨congrArg _ (transact_movable 0x21 1 _ listens rest rfl (by decide)),
    congrArg _ (transact_movable 0x22 1 _ listens rest rfl (by decide))⟩

/-- The counter and the position after STEP BACK and STEP FORWARD (R31, R43). -/
theorem step_counts (n : Nat) :
    (stepBack n s).pick.counter = s.pick.counter - n ∧
      (stepBack n s).pick.position = (backwardMoves n s).pick.position ∧
      (stepForward n s).pick.counter = min (s.pick.counter + n) 4294967295 ∧
      (stepForward n s).pick.position = (forwardMoves n s).pick.position := by
  simp [stepBack, stepForward, finishMove_keeps, countDown, countUp, maxCount]

/-- What STEP BACK and STEP FORWARD leave, and the re-form they start or owe (R17, R43, R106, R107). -/
theorem step_keeps {n : Nat} {x : State} (at_ : s.pick.position = some p) (stepped : x = stepBack n s ∨ x = stepForward n s) :
    x.shaft.speed = 0 ∧ x.shaft.measuring = false ∧ x.shaft.intervalRunning = false ∧
      x.shaft.angle = s.shaft.angle ∧ x.shaft.offset = s.shaft.offset ∧ x.shaft.timing = s.shaft.timing ∧
      x.pick.target = s.pick.target ∧ x.harness.live = s.harness.live ∧ x.harness.drive = s.harness.drive ∧
      x.frame.available = s.frame.available ∧ x.frame.guard = s.frame.guard ∧
      x.store.memory = s.store.memory ∧ x.store.queue = s.store.queue ∧
      (s.shaft.reference ≠ .referenced → x.frame.owed = some .step) ∧
      (s.shaft.reference = .referenced → s.harness.live.hooks ≠ 0 → x.frame.output = s.frame.output ∧
        x.frame.latched = s.frame.latched ∧ x.pick.history = s.pick.history ∧ x.pick.reforming = true ∧
        ∃ q, x.pick.position = some q ∧ x.Holds (.reform .step) q) := by
  obtain ⟨y, q, made, at', shaft, target, harness, available, guard, memory, queue, output, latched, history⟩ :
      ∃ y q, x = finishMove .step y ∧ y.pick.position = some q ∧ y.shaft = s.shaft ∧ y.pick.target = s.pick.target ∧
        y.harness = s.harness ∧ y.frame.available = s.frame.available ∧ y.frame.guard = s.frame.guard ∧
        y.store.memory = s.store.memory ∧ y.store.queue = s.store.queue ∧ y.frame.output = s.frame.output ∧
        y.frame.latched = s.frame.latched ∧ y.pick.history = s.pick.history := by
    rcases stepped with rfl | rfl
    · obtain ⟨q, at'⟩ := exists_backwardMoves n ⟨p, at_⟩
      exact ⟨countDown n (backwardMoves n s), q, rfl, at', by simp [countDown]⟩
    · obtain ⟨q, at'⟩ := exists_forwardMoves n ⟨p, at_⟩
      exact ⟨countUp n (forwardMoves n s), q, rfl, at', by simp [countUp]⟩
  subst made
  obtain ⟨speed, measuring, running, angle, offset, timing, position, -, target', -, live, drive, available', guard', -,
    memory', queue'⟩ := finishMove_keeps (c := .step) (y := y)
  rw [shaft] at angle offset timing
  rw [harness] at live drive
  refine ⟨speed, measuring, running, angle, offset, timing, target'.trans target, live, drive, available'.trans available,
    guard'.trans guard, memory'.trans memory, queue'.trans queue, fun away => ?_, fun referenced hooks => ?_⟩
  · rw [finishMove_owed (by rw [shaft]; exact away)]
  · obtain ⟨holds, reforming, history', -, latched', -, output', -, -⟩ :=
      finishMove_pending (c := .step) (by rw [shaft]; exact referenced) at' (by rw [harness]; exact hooks)
    exact ⟨output'.trans output, latched'.trans latched, history'.trans history, reforming, q, position.trans at', holds⟩

/-- A wrap whose decision is taken now (R24, R35–R37). -/
theorem wrapNow_cases (p : Position) (s : State) :
    ((s.bank (otherBank p.bank)).state = .armed → s.fits (otherBank p.bank) = true → (wrapNow p s).Swapped p ∧
        (wrapNow p s).frame.alternation = Vector.replicate 8 .primaryNext ∧ (wrapNow p s).frame.committed = []) ∧
      ((s.bank (otherBank p.bank)).state ≠ .armed ∨ s.fits (otherBank p.bank) = false →
        (wrapNow p s).pick.position = some { bank := p.bank, line := 0, step := 0, rep := min (p.rep + 1) 65535 } ∧
        (wrapNow p s).loom.flags.getLsbD 2 = true ∧ (wrapNow p s).design.flags.getLsbD 1 = true) ∧
      ((s.bank (otherBank p.bank)).state = .armed → s.fits (otherBank p.bank) = false →
        ((wrapNow p s).bank (otherBank p.bank)).state = .ready ∧ (wrapNow p s).loom.flags.getLsbD 4 = true ∧
        (wrapNow p s).design.flags.getLsbD 3 = true) := by
  refine ⟨fun armed fits => ?_, fun plain => ?_, fun armed wide => ?_⟩
  · obtain ⟨swapped, fresh, cleared, -⟩ := commitSwap_swapped p s
    rw [wrapNow_swap armed fits]
    exact ⟨swapped, fresh, cleared⟩
  · by_cases armed : (s.bank (otherBank p.bank)).state = .armed
    · rw [wrapNow_refused armed (plain.resolve_left (absurd armed))]
      exact plainWrap_wrapped p _
    · rw [wrapNow_plain armed]
      exact plainWrap_wrapped p s
  · obtain ⟨ready, loom, design⟩ := refuseSwap_refused (otherBank p.bank) s
    have later := later_plainWrap (refuseSwap (otherBank p.bank) s) p
    rw [wrapNow_refused armed wide, bank_plainWrap]
    exact ⟨ready, later.flags .loom 4 loom, later.flags .design 3 design⟩

/-- One pick forward at the end of the repeat (R24, R35–R37). -/
theorem stepForward_wrap (at_ : s.pick.position = some p) (last : (s.article p.bank).len p.line ≤ p.step + 1)
    (h : (s.article p.bank).height ≤ p.line + 1) :
    ((s.bank (otherBank p.bank)).state = .armed → s.fits (otherBank p.bank) = true → (stepForward 1 s).Swapped p ∧
        (stepForward 1 s).frame.alternation = Vector.replicate 8 .primaryNext ∧
        (stepForward 1 s).frame.committed = []) ∧
      ((s.bank (otherBank p.bank)).state ≠ .armed ∨ s.fits (otherBank p.bank) = false →
        (stepForward 1 s).pick.position = some { bank := p.bank, line := 0, step := 0, rep := min (p.rep + 1) 65535 } ∧
        (stepForward 1 s).loom.flags.getLsbD 2 = true ∧ (stepForward 1 s).design.flags.getLsbD 1 = true) ∧
      ((s.bank (otherBank p.bank)).state = .armed → s.fits (otherBank p.bank) = false →
        ((stepForward 1 s).bank (otherBank p.bank)).state = .ready ∧ (stepForward 1 s).loom.flags.getLsbD 4 = true ∧
        (stepForward 1 s).design.flags.getLsbD 3 = true) := by
  have made : stepForward 1 s = finishMove .step (countUp 1 (wrapNow p s)) :=
    congrArg (fun x => finishMove .step (countUp 1 x)) (forwardMove_wrap (d := none) at_ last h)
  have later : Later (wrapNow p s) (finishMove .step (countUp 1 (wrapNow p s))) :=
    .trans (later_still (t := countUp 1 (wrapNow p s)) rfl rfl rfl rfl) later_finishMove
  have moved : (finishMove .step (countUp 1 (wrapNow p s))).pick.position = (wrapNow p s).pick.position := by simp [countUp]
  obtain ⟨swaps, plain, refuses⟩ := wrapNow_cases p s
  rw [made]
  refine ⟨fun armed fits => ?_, fun stays => ?_, fun armed wide => ?_⟩
  · obtain ⟨swapped, fresh, cleared⟩ := swaps armed fits
    obtain ⟨at', retired, -⟩ := swapped
    refine ⟨Swapped.later (swaps armed fits).1 moved (fun k => ?_) later.flags, ?_, committed_finishMove cleared⟩
    · refine bank_finishMove_free (y := countUp 1 (wrapNow p s)) k at' ?_
      change ((wrapNow p s).bank (otherBank (otherBank p.bank))).state ≠ .armed
      rw [otherBank_otherBank, retired]
      decide
    · simpa [countUp] using fresh
  · obtain ⟨at', loom, design⟩ := plain stays
    exact ⟨moved.trans at', later.flags .loom 2 loom, later.flags .design 1 design⟩
  · obtain ⟨at', -, -⟩ := plain (.inr wide)
    obtain ⟨ready, loom, design⟩ := refuses armed wide
    refine ⟨?_, later.flags .loom 4 loom, later.flags .design 3 design⟩
    rw [bank_finishMove_free (y := countUp 1 (wrapNow p s)) _ at' ?_]
    · exact ready
    · change ((wrapNow p s).bank (otherBank p.bank)).state ≠ .armed
      rw [ready]
      decide

/-- One pick back from the first pick of a line (R25, R40). -/
theorem stepBack_first (at_ : s.pick.position = some p) (first : p.step = 0) :
    (p.line ≠ 0 → (stepBack 1 s).pick.position = some
        { p with line := p.line - 1, step := (s.article p.bank).len (p.line - 1) - 1 }) ∧
      (p.line = 0 → p.rep ≠ 0 ∨ (s.bank (otherBank p.bank)).state ≠ .retired → (stepBack 1 s).pick.position = some
        { bank := p.bank, line := (s.article p.bank).height - 1,
          step := (s.article p.bank).len ((s.article p.bank).height - 1) - 1, rep := p.rep - 1 }) := by
  have moved : (stepBack 1 s).pick.position = (backwardMove s).pick.position := step_counts 1 |>.2.1
  refine ⟨fun line => ?_, fun line none_ => ?_⟩
  · rw [moved, backwardMove_prevLine at_ first line]
    rfl
  · rw [moved, backwardMove_wrap at_ first line none_]
    rfl

/-- One pick back from the first pick of all beside a RETIRED bank (R40). -/
theorem stepBack_undo {r : Retained} (at_ : s.pick.position = some p) (first : p.step = 0) (line : p.line = 0)
    (rep : p.rep = 0) (retired : (s.bank (otherBank p.bank)).state = .retired)
    (retained : (s.bank (otherBank p.bank)).record.bind (·.retained) = some r) :
    (s.fits (otherBank p.bank) = true →
        (stepBack 1 s).pick.position = some { bank := otherBank p.bank, line := r.line, step := r.step, rep := r.rep } ∧
        ((stepBack 1 s).bank (otherBank p.bank)).state = .weaving ∧
        ((stepBack 1 s).bank (otherBank p.bank)).record.bind (·.retained) = none ∧
        (s.shaft.reference ≠ .referenced ∨ s.harness.live.hooks ≠ 0 → ((stepBack 1 s).bank p.bank).state = .armed) ∧
        (stepBack 1 s).frame.alternation = Vector.replicate 8 .primaryNext ∧ (stepBack 1 s).frame.committed = [] ∧
        (stepBack 1 s).loom.flags.getLsbD 5 = true ∧ (stepBack 1 s).design.flags.getLsbD 4 = true) ∧
      (s.fits (otherBank p.bank) = false →
        (stepBack 1 s).pick.position = some
          { bank := p.bank, line := (s.article p.bank).height - 1,
            step := (s.article p.bank).len ((s.article p.bank).height - 1) - 1, rep := 0 } ∧
        (stepBack 1 s).loom.flags.getLsbD 4 = true ∧ (stepBack 1 s).design.flags.getLsbD 3 = true) := by
  have later (y : State) : Later y (finishMove .step (countDown 1 y)) :=
    .trans (later_still (t := countDown 1 y) rfl rfl rfl rfl) later_finishMove
  have moved (y : State) : (finishMove .step (countDown 1 y)).pick.position = y.pick.position := by simp [countDown]
  have made : stepBack 1 s = finishMove .step (countDown 1 (if s.fits (otherBank p.bank) then undoSwap p s
      else setPosition (s.wrappedBack p) (raiseBoth .swapRefused s))) :=
    congrArg (fun x => finishMove .step (countDown 1 x)) (backwardMove_undo at_ first line rep retired)
  refine ⟨fun fits => ?_, fun wide => ?_⟩
  · rw [made, if_pos fits]
    obtain ⟨at', armed, weaving, dropped, -, fresh, cleared, loom, design⟩ := undoSwap_undone retained
    have back : (finishMove .step (countDown 1 (undoSwap p s))).bank (otherBank p.bank) =
        (undoSwap p s).bank (otherBank p.bank) := bank_finishMove_weaving (y := countDown 1 (undoSwap p s)) at'
    refine ⟨(moved _).trans at', by rw [back]; exact weaving, by rw [back]; exact dropped, fun pending => ?_,
      by simpa [countDown] using fresh, committed_finishMove cleared,
      (later _).flags .loom 5 loom, (later _).flags .design 4 design⟩
    rw [bank_finishMove_pending (y := countDown 1 (undoSwap p s)) p.bank at' (by simpa [countDown] using pending)]
    exact armed
  · rw [made, wide]
    refine ⟨(moved _).trans ?_, (later _).flags .loom 4 ?_, (later _).flags .design 3 ?_⟩
    · simp [State.wrappedBack, rep, Article.lastPick]
    · simp [eventBit, eventNumber]
    · simp [eventBit, eventNumber]

end Steps

/-- Settles O32: n moves, then one re-form; a single move is a case of `forwardMove` or `backwardMove`. -/
theorem stepCommandsMoveThePosition : Obligations.StepCommandsMoveThePosition := by
  unfold Obligations.StepCommandsMoveThePosition
  intro b n s p clamped listens rest at_
  obtain ⟨back, forward⟩ := exec_step b listens rest
  rw [← clamped] at back forward
  rw [back, forward]
  refine ⟨fun busy => by simp [unlessReforming, busy, Machine.busy], fun free => ?_⟩
  obtain ⟨down, backs, up, forwards⟩ := step_counts (s := s) n
  refine ⟨stepBack n s, stepForward n s, by simp [unlessReforming, free, done], by simp [unlessReforming, free, done],
    down, up, backs, forwards, fun within => backs.trans (backwardMoves_within at_ within),
    fun within => forwards.trans (forwardMoves_within at_ within), fun one last => ?_, fun one first => ?_,
    fun x stepped => step_keeps at_ stepped⟩
  · subst one
    refine ⟨fun line => ?_, fun wrap => stepForward_wrap at_ last wrap⟩
    rw [forwards, forwardMoves, forwardMove_nextLine at_ last line]
    rfl
  · subst one
    obtain ⟨prev, wrap⟩ := stepBack_first at_ first
    exact ⟨prev, wrap, fun r line rep retired retained => stepBack_undo at_ first line rep retired retained⟩

end Sys2Proof.Proofs
end

section
/-! PROOF. The reverse latch (R10, R29, R116) and the swap that it undoes (R40). -/

namespace Sys2Proof.Proofs

open Sys2Proof.Machine

section Latch

variable {s : State}

/-- The state a reverse latch moves: the count taken, d at 1024 − h, the measurement cancelled (R10, R17). -/
def reverseCount (s : State) : State :=
  { countShaft .backward s with
    shaft := { (countShaft .backward s).shaft.cancel with offset := 1024 - (s.shaft.timing.backOff : Int) } }

/-- The count before a reverse latch leaves the pick engine and the store, and of the frame builder all but the gate. -/
@[simp] theorem reverseCount_keeps :
    (reverseCount s).pick = s.pick ∧ (reverseCount s).store = s.store ∧ (reverseCount s).loom = s.loom ∧
      (reverseCount s).design = s.design ∧ (reverseCount s).frame = { s.frame with gate := false } ∧
      (reverseCount s).harness.live = s.harness.live ∧ (reverseCount s).shaft.reference = s.shaft.reference ∧
      (reverseCount s).shaft.offset = 1024 - (s.shaft.timing.backOff : Int) ∧ (reverseCount s).shaft.speed = 0 ∧
      (reverseCount s).shaft.measuring = false := by
  simp [reverseCount, Shaft.cancel, countShaft]

/-- The cause of the re-form of a reverse latch (R29). -/
def reverseCause (s : State) : Cause := if s.undoes then .undo else .reverse

/-- A reverse latch in WEAVING: the move, the counter and the re-form (R29, R116). -/
def reverseMoved (s : State) : State :=
  startReform (reverseCause (reverseCount s)) (countDown 1 (backwardMove (reverseCount s)))

/-- The count that brings d to −h (R8, R10). -/
theorem exec_reverseLatch (at_ : s.AtReverseLatch) :
    exec (.encoderCount .backward) s =
      .next (if s.pick.engine = .weaving then reverseMoved s else reverseCount s) := by
  obtain ⟨awake, referenced, last⟩ := at_
  have latched : countBackward (countShaft .backward s) =
      reverseLatch { countShaft .backward s with shaft.offset := 1024 - (s.shaft.timing.backOff : Int) } := by
    simp [countBackward, last]
  rw [exec_encoderCount s .backward awake, shaftCount_backward s referenced, latched]
  have engine : (countShaft .backward s).pick.engine = s.pick.engine := by simp
  unfold reverseLatch
  simp only [engine]
  rfl

/-- What a reverse latch in WEAVING leaves (R10, R29). -/
@[simp] theorem reverseMoved_keeps :
    (reverseMoved s).shaft.offset = 1024 - (s.shaft.timing.backOff : Int) ∧ (reverseMoved s).shaft.speed = 0 ∧
      (reverseMoved s).shaft.measuring = false ∧ (reverseMoved s).frame.gate = false ∧
      (reverseMoved s).pick.counter = s.pick.counter - 1 ∧
      (reverseMoved s).pick.position = (backwardMove (reverseCount s)).pick.position := by
  simp [reverseMoved, countDown]

/-- With hooks to shift the re-form of a reverse latch is in the slot (R106, R116). -/
theorem reverseMoved_pending {q : Position} (referenced : s.shaft.reference = .referenced)
    (hooks : s.harness.live.hooks ≠ 0) (at_ : (backwardMove (reverseCount s)).pick.position = some q) :
    (reverseMoved s).Holds (.reform (reverseCause (reverseCount s))) q ∧ (reverseMoved s).pick.reforming = true ∧
      (reverseMoved s).pick.history = s.pick.history ∧
      (reverseMoved s).pick.exchangeNote = (backwardMove (reverseCount s)).pick.exchangeNote ∧
      (reverseMoved s).frame.latched = s.frame.latched ∧ (reverseMoved s).frame.latchedDesc = s.frame.latchedDesc ∧
      (reverseMoved s).frame.output = s.frame.output ∧
      (reverseMoved s).store.bankA = (backwardMove (reverseCount s)).store.bankA ∧
      (reverseMoved s).store.bankB = (backwardMove (reverseCount s)).store.bankB := by
  have started : reverseMoved s =
      beginReform (reverseCause (reverseCount s)) (countDown 1 (backwardMove (reverseCount s))) :=
    startReform_of_referenced _ _ (by simpa [countDown] using referenced)
  rw [started]
  obtain ⟨holds, reforming, history, note, latched, desc, output, a, b⟩ :=
    beginReform_pending (c := reverseCause (reverseCount s)) (s := countDown 1 (backwardMove (reverseCount s))) at_
      (by simpa [countDown] using hooks)
  exact ⟨holds, reforming, history.trans (by simp [countDown]), note, latched.trans (by simp [countDown]),
    desc.trans (by simp [countDown]), output.trans (by simp [countDown]), a, b⟩

/-- Flags raised by the move of a reverse latch stay. -/
theorem later_reverseMoved : Later (backwardMove (reverseCount s)) (reverseMoved s) :=
  .trans (later_still (t := countDown 1 (backwardMove (reverseCount s))) rfl rfl rfl rfl) (later_startReform _ _)

end Latch

/-- Settles O13: the move is `backwardMove` by its cases, what follows is one re-form. -/
theorem reverseLatchStepsBack : Obligations.ReverseLatchStepsBack := by
  unfold Obligations.ReverseLatchStepsBack
  intro s at_
  have referenced : s.shaft.reference = .referenced := at_.2.1
  refine ⟨_, exec_reverseLatch at_, ?_⟩
  by_cases weaving : s.pick.engine = .weaving
  · rw [if_pos weaving]
    refine ⟨by simp, by simp, by simp, by simp, fun other => absurd weaving other, fun _ p at' => ?_⟩
    have here : (reverseCount s).pick.position = some p := by simpa using at'
    refine ⟨by simp, fun within => ?_, fun first line => ?_, fun first line none_ => ?_, fun hooks => ?_⟩
    · simp [backwardMove_within here within]
    · simp [backwardMove_prevLine here first line, State.article, State.bank]
    · rw [reverseMoved_keeps.2.2.2.2.2, backwardMove_wrap here first line (by simpa [State.bank] using none_)]
      simp [State.wrappedBack, Article.lastPick, State.article, State.bank]
    · obtain ⟨q, moved⟩ := exists_backwardMoves 1 ⟨p, here⟩
      obtain ⟨holds, reforming, history, -, latched, desc, output, -⟩ := reverseMoved_pending referenced hooks moved
      refine ⟨_, q, reverseMoved_keeps.2.2.2.2.2.trans moved, holds, ?_, reforming, history, latched, desc, output⟩
      unfold reverseCause
      split
      · exact .inr rfl
      · exact .inl rfl
  · rw [if_neg weaving]
    exact ⟨by simp, by simp, by simp, by simp, fun _ => by simp, fun h => absurd h weaving⟩

/-- Settles O14: the move is `undoSwap` where the width check passes, else a wrap back with SWAP REFUSED. -/
theorem reverseLatchUndoesSwap : Obligations.ReverseLatchUndoesSwap := by
  unfold Obligations.ReverseLatchUndoesSwap
  intro s p r at_ weaving at' line first rep retired retained hooks
  have referenced : s.shaft.reference = .referenced := at_.2.1
  refine ⟨_, exec_reverseLatch at_, ?_⟩
  rw [if_pos weaving]
  have here : (reverseCount s).pick.position = some p := by simpa using at'
  have banks (k : BankId) : (reverseCount s).bank k = s.bank k := by simp [State.bank]
  have fits : (reverseCount s).fits (otherBank p.bank) = s.fits (otherBank p.bank) := by
    simp [State.fits, State.article, banks]
  have move := backwardMove_undo here first line rep (by rw [banks]; exact retired)
  have later := later_reverseMoved (s := s)
  rw [fits] at move
  refine ⟨fun fit => ?_, fun wide => ?_⟩
  · rw [if_pos fit] at move
    obtain ⟨at'', armed, back, dropped, note, fresh, cleared, loom, design⟩ :=
      undoSwap_undone (s := reverseCount s) (p := p) (r := r) (by rw [banks]; exact retained)
    rw [← move] at at'' armed back dropped note fresh cleared loom design
    obtain ⟨holds, -, -, exchange, -, -, -, a, b⟩ := reverseMoved_pending referenced hooks at''
    have cause : reverseCause (reverseCount s) = .undo := by
      rw [reverseCause, undoes_iff_fits here first line rep (by rw [banks]; exact retired), fits, fit]
      rfl
    refine ⟨reverseMoved_keeps.2.2.2.2.2.trans at'', by rw [bank_congr a b]; exact armed,
      by rw [bank_congr a b]; exact back, by rw [bank_congr a b]; exact dropped, exchange.trans note, ?_, ?_,
      later.flags .loom 5 loom, later.flags .design 4 design, by rw [← cause]; exact holds⟩
    · exact Eq.trans (by simp [reverseMoved, countDown]) fresh
    · exact committed_startReform cleared
  · rw [wide] at move
    have at'' : (backwardMove (reverseCount s)).pick.position = some
        { bank := p.bank, line := (s.article p.bank).height - 1,
          step := (s.article p.bank).len ((s.article p.bank).height - 1) - 1, rep := 0 } := by
      rw [move]
      simp [State.wrappedBack, Article.lastPick, State.article, banks, rep]
    obtain ⟨-, -, -, -, -, -, -, a, b⟩ := reverseMoved_pending referenced hooks at''
    refine ⟨reverseMoved_keeps.2.2.2.2.2.trans at'', a.trans ?_, b.trans ?_, later.flags .loom 4 ?_,
      later.flags .design 3 ?_⟩
    all_goals simp [move, eventBit, eventNumber]

end Sys2Proof.Proofs
end

section
/-! PROOF. The forward latch in WEAVING: the state it finds, the move with its counter and record, and what the marks at 0
leave of it (R9, R11, R27, R113, R114). -/

namespace Sys2Proof.Proofs

open Sys2Proof.Machine

section Latch

variable {s x y : State} {p : Position}

/-- The state that the pick engine and the frame builder find at a forward latch (R9). -/
def latchFound (s : State) : State := latchTracker (latchCount s)

/-- The count and the tracker leave the pick engine, the frame builder and the store. -/
@[simp] theorem latchFound_keeps :
    (latchFound s).pick = s.pick ∧ (latchFound s).frame = s.frame ∧ (latchFound s).store = s.store ∧
      (latchFound s).design = s.design ∧ (latchFound s).harness.live = s.harness.live ∧
      (latchFound s).shaft.angle = (s.shaft.angle + 1) % 1024 ∧ (latchFound s).shaft.offset = 0 ∧
      (latchFound s).shaft.timing = s.shaft.timing := by
  simp [latchFound, latchCount, countShaft, angleAfter]

/-- The count and the tracker leave flags raised (R20). -/
theorem later_latchFound : Later s (latchFound s) :=
  .trans (later_still (t := latchCount s) (by simp) (by simp [latchCount]) (by simp [latchCount]) (by simp [latchCount]))
    (later_latchTracker _)

/-- What the marks at 0 follow: the latch of the pick engine and the frame builder, and the harness unit (R9, R11). -/
def latchMarks (y : State) : State := crossMarks (restartStandstill y)

/-- The forward latch: the state found, the latch, the marks (R9, R11). -/
theorem exec_latch (at_ : s.AtForwardLatch) :
    exec (.encoderCount .forward) s = .next (latchMarks (latchEngine (latchFound s))) := exec_forwardLatch at_

/-- What the marks leave after the latch (R11). -/
@[simp] theorem latchMarks_keeps :
    (latchMarks y).shaft.offset = y.shaft.offset ∧ (latchMarks y).shaft.slack = y.shaft.slack ∧
      (latchMarks y).pick.position = y.pick.position ∧
      (latchMarks y).pick.counter = y.pick.counter ∧ (latchMarks y).pick.exchangeNote = y.pick.exchangeNote ∧
      (latchMarks y).pick.history = y.pick.history ∧ (latchMarks y).pick.target = y.pick.target ∧
      (latchMarks y).frame.latched = y.frame.latched ∧
      (latchMarks y).frame.latchedDesc = y.frame.latchedDesc ∧ (latchMarks y).frame.pickFeeder = y.frame.pickFeeder ∧
      (latchMarks y).frame.committed = y.frame.committed ∧ (latchMarks y).frame.alternation = y.frame.alternation := by
  simp [latchMarks]

/-- The marks leave flags raised and the first fault. -/
theorem later_latchMarks : Later y (latchMarks y) := (later_restartStandstill y).trans (later_crossMarks _)

/-- A mark away from 0 is not crossed by a latch (R11). -/
theorem not_crosses {n : Nat} (zero : y.shaft.offset = 0) (away : n ≠ 0) : y.shaft.crosses n = false := by
  simp [Shaft.crosses, zero]
  omega

/-- A frame start away from the latch starts no frame at it (R104). -/
theorem latchMarks_away (zero : y.shaft.offset = 0) (away : y.shaft.timing.frameStart ≠ 0) :
    (latchMarks y).frame.slot = y.frame.slot ∧ (latchMarks y).pick.reforming = y.pick.reforming ∧
      (latchMarks y).store = y.store := by
  simp only [latchMarks, crossMarks, restartStandstill_fields, not_crosses zero away]
  split <;> simp

/-- A frame start and a weft select away from the latch report no fault at it (R95, R104). -/
theorem latchMarks_fault (zero : y.shaft.offset = 0) (away : y.shaft.timing.frameStart ≠ 0)
    (select : y.shaft.timing.weftSelect ≠ 0) : (latchMarks y).pick.fault = y.pick.fault := by
  simp [latchMarks, crossMarks, not_crosses zero away, not_crosses zero select]

/-- Beside a bank that is not ARMED the marks leave the banks (R35). -/
theorem bank_latchMarks (k : BankId) (at_ : y.pick.position = some p)
    (free : (y.bank (otherBank p.bank)).state ≠ .armed) : (latchMarks y).bank k = y.bank k := by
  have started : (startForward (restartStandstill y)).bank k = y.bank k :=
    (bank_startForward_free k (by simpa using at_) (by simpa [State.bank] using free)).trans (by simp [State.bank])
  have still : (restartStandstill y).bank k = y.bank k := by simp [State.bank]
  have marked (z : State) (on off : Bool) : (gateMarks on off z).bank k = z.bank k ∧ (weftSelect z).bank k = z.bank k := by
    simp [State.bank]
  simp only [latchMarks, crossMarks, (marked _ _ _).1]
  split <;> split <;> simp only [(marked _ true true).2, started, still]

/-! ## The move, the counter and the record -/

section Advance

variable {d : Option Bool} {kind : RecordKind} {f : Option (Fin 8)} {sub : Bool} {n : Nat} {q : Position}

/-- A history record of a latch (R47–R49). -/
theorem addRecord_at (at_ : y.pick.position = some q) :
    (addRecord kind f sub n y).pick.exchangeNote = false ∧
      ∃ r : HistoryRecord, (addRecord kind f sub n y).pick.history = (r :: y.pick.history).take 16 ∧ r.kind = kind ∧
        r.counter = y.pick.counter ∧ r.position = q ∧ r.feeder = f ∧ r.substituted = sub ∧ r.bindCount = n ∧
        r.swapFlag = y.pick.exchangeNote := by
  simp only [addRecord, at_]
  exact ⟨trivial, _, rfl, rfl, rfl, rfl, rfl, rfl, rfl, rfl⟩

/-- What the pick engine makes of a latch by the pick it moves to (R27, R31, R47–R49). -/
theorem advance_moved (moved : (forwardMove d x).pick.position = some q) :
    (advance d kind f sub n x).pick.position = some q ∧
      (advance d kind f sub n x).pick.counter = min (x.pick.counter + 1) 4294967295 ∧
      (advance d kind f sub n x).pick.exchangeNote = false ∧
      (∃ r : HistoryRecord, (advance d kind f sub n x).pick.history = (r :: x.pick.history).take 16 ∧ r.kind = kind ∧
        r.counter = min (x.pick.counter + 1) 4294967295 ∧ r.position = q ∧ r.feeder = f ∧ r.substituted = sub ∧
        r.bindCount = n ∧ r.swapFlag = (forwardMove d x).pick.exchangeNote) ∧
      (advance d kind f sub n x).frame = (forwardMove d x).frame ∧
      (advance d kind f sub n x).store = (forwardMove d x).store := by
  obtain ⟨note, r, history, rk, rc, rp, rf, rs, rb, rw_⟩ := addRecord_at (kind := kind) (f := f) (sub := sub) (n := n)
    (y := raiseIf x.pick.pieceReached .loom .pieceDone (countUp 1 (forwardMove d x))) (q := q) (by simpa [countUp] using moved)
  refine ⟨by simpa [advance, countUp] using moved, by simp [advance, countUp, maxCount], note,
    ⟨r, history.trans (by simp [countUp]), rk, rc.trans (by simp [countUp, maxCount]), rp, rf, rs, rb,
      rw_.trans (by simp [countUp])⟩, by simp [advance, countUp], by simp [advance, countUp]⟩

/-- Flags raised by the move stay, and PIECE DONE is raised where the target is reached (R33). -/
theorem advance_flags :
    (∀ k m, ((forwardMove d x).link k).flags.getLsbD m = true →
        ((advance d kind f sub n x).link k).flags.getLsbD m = true) ∧
      (advance d kind f sub n x).loom.flags.getLsbD 6 = (x.loom.flags.getLsbD 6 || x.pick.pieceReached) := by
  have same (k : Link) : (advance d kind f sub n x).link k =
      (raiseIf x.pick.pieceReached .loom .pieceDone (countUp 1 (forwardMove d x))).link k := by
    cases k <;> simp [advance, State.link]
  refine ⟨fun k m set => ?_, ?_⟩
  · rw [same]
    cases x.pick.pieceReached
    · exact set
    · cases k
      · have bit := getLsbD_raise .loom .pieceDone m (countUp 1 (forwardMove d x))
        exact bit.trans (by rw [show ((countUp 1 (forwardMove d x)).link .loom).flags.getLsbD m = true from set]; rfl)
      · exact set
  · have bit := getLsbD_raiseIf x.pick.pieceReached .loom .pieceDone 6 (countUp 1 (forwardMove d x))
    have before : ((countUp 1 (forwardMove d x)).link .loom).flags.getLsbD 6 = x.loom.flags.getLsbD 6 :=
      (later_forwardMove x d).piece
    have set : (eventBit .loom .pieceDone).getLsbD 6 = true := by decide
    have here : (advance d kind f sub n x).loom = (advance d kind f sub n x).link .loom := rfl
    rw [here, same, bit, before, set, Bool.and_true]

end Advance

end Latch

/-! ## The piece target -/

section Piece

variable {s x : State}

/-- What follows the move of a READY latch (R78–R80, R93). -/
def readyTail (d : Descriptor) (y : State) : State :=
  let z := latchFloat d { y with frame.alternation := alternationAfter d y.frame.alternation }
  if d.violation then reportFault .floatLimit .none z else z

/-- The state in which a READY latch moves: the shed and the descriptor taken, the slot EMPTY (R113). -/
def readyTaken (d : Descriptor) (x : State) : State :=
  { x with
    frame := { x.frame with
      latched := x.frame.staged, staged := .empty, latchedDesc := some d, pickFeeder := .frame d.resolved,
      slot := .empty } }

theorem takeReady_eq (d : Descriptor) :
    takeReady d x = readyTail d (advance (some d.swap) .forward d.resolved d.substituted d.bindCount (readyTaken d x)) := rfl

theorem later_readyTail (d : Descriptor) (y : State) : Later y (readyTail d y) := by
  have float : Later y (latchFloat d { y with frame.alternation := alternationAfter d y.frame.alternation }) := by
    refine .trans ?_ (later_latchFloat _ d)
    exact later_still rfl rfl rfl rfl
  unfold readyTail
  dsimp only
  split
  · exact float.trans (later_reportFault ..)
  · exact float

/-- The state in which a LATE latch moves: the pending frame and the committed state gone (R114). -/
def lateTaken (x : State) : State := clearFloat { Machine.discard x with frame.pickFeeder := .noFrame }

theorem takeLate_eq :
    takeLate x = reportFault .lateFrame .none (advance x.frame.slot.decided .stale none false 0 (lateTaken x)) := rfl

/-- PIECE DONE at the latch of the engine in WEAVING (R33). -/
theorem latchEngine_piece (weaving : x.pick.engine = .weaving) :
    (latchEngine x).loom.flags.getLsbD 6 = (x.loom.flags.getLsbD 6 || x.pick.pieceReached) := by
  unfold latchEngine
  rw [if_pos weaving]
  split
  next d _ =>
    rw [takeReady_eq, (later_readyTail d _).piece, advance_flags.2]
    rfl
  · rw [takeLate_eq, (later_reportFault _ _ _).piece, advance_flags.2]
    simp [lateTaken, clearFloat, PickEngine.pieceReached]

/-- The counter at the latch of the engine in WEAVING (R31). -/
theorem latchEngine_counter (weaving : x.pick.engine = .weaving) :
    (latchEngine x).pick.counter = min (x.pick.counter + 1) 4294967295 := by
  have advanced (d : Option Bool) (kind : RecordKind) (f : Option (Fin 8)) (sub : Bool) (n : Nat) (y : State) :
      (advance d kind f sub n y).pick.counter = min (y.pick.counter + 1) 4294967295 := by simp [advance, countUp, maxCount]
  unfold latchEngine
  rw [if_pos weaving]
  split
  next d _ =>
    rw [takeReady_eq]
    unfold readyTail
    dsimp only
    split <;> simp [advanced, readyTaken]
  · rw [takeLate_eq]
    simp [advanced, lateTaken, clearFloat]

end Piece

/-- Settles O34: both numbers are written as carried, and PIECE DONE is raised by the move of a latch alone. -/
theorem pickCountAndPieceTarget : Obligations.PickCountAndPieceTarget := by
  unfold Obligations.PickCountAndPieceTarget
  refine ⟨fun a b c d s listens => ?_, fun s at_ weaving => ⟨_, exec_latch at_, ?_⟩⟩
  · have carried : longAt [a, b, c, d] 0 = a.toNat * 16777216 + b.toNat * 65536 + c.toNat * 256 + d.toNat := by
      simp [longAt, wordAt, byteAt]
      omega
    refine ⟨congrArg _ ((transact_loom 0x24 4 _ listens rfl (by decide)).trans ?_),
      congrArg _ ((transact_loom 0x25 4 _ listens rfl (by decide)).trans ?_)⟩ <;> simp [carried, done]
  · have found : (latchFound s).pick.engine = .weaving := by simpa using weaving
    refine ⟨by simp, ?_⟩
    rw [later_latchMarks.piece, latchEngine_piece found, later_latchFound.piece, latchMarks_keeps.2.2.2.1,
      latchEngine_counter found]
    simp [PickEngine.pieceReached, maxCount, Bool.and_assoc]

end Sys2Proof.Proofs
end

section
/-! PROOF. The latch of a READY frame (R113) and the LATE latch (R114). -/

namespace Sys2Proof.Proofs

open Sys2Proof.Machine

section Reports

variable {s : State} (kind : FaultKind) (cause : LossCause)

/-- The first fault, with the counter, the position and the angle as they stand (R170, R171). -/
theorem reportFault_first (empty : s.pick.fault = none) :
    (reportFault kind cause s).pick.fault = some
        { kind := kind, cause := cause, counter := s.pick.counter, position := s.pick.position, angle := s.shaft.angle,
          laterCount := 0, laterKinds := .empty } ∧
      (reportFault kind cause s).loom.flags.getLsbD 0 = true ∧
      (reportFault kind cause s).design.flags.getLsbD 0 = true ∧
      (reportFault kind cause s).pick.stopRequest = true := by
  rw [reportFault_none s kind cause empty]
  simp [enterFirstFault, eventBit, eventNumber]

/-- A later fault (R172). -/
theorem reportFault_later {r : FaultRecord} (held : s.pick.fault = some r) :
    (reportFault kind cause s).pick.fault = some
      { r with laterCount := min (r.laterCount + 1) 255, laterKinds := r.laterKinds.insert kind } := by
  rw [reportFault_some s kind cause r held]
  rfl

end Reports

/-- A forward move keeps a position (R23, R24). -/
theorem exists_forwardMove {s : State} {p : Position} (d : Option Bool) (at_ : s.pick.position = some p) :
    ∃ q, (forwardMove d s).pick.position = some q := by
  unfold forwardMove
  simp only [at_]
  split
  · exact ⟨_, rfl⟩
  · split
    · obtain ⟨q, moved⟩ : ∃ q, (wrapNow p s).pick.position = some q := by
        unfold wrapNow
        split
        · exact ⟨_, (plainWrap_wrapped p s).1⟩
        · exact ⟨_, (plainWrap_wrapped p _).1⟩
        · exact ⟨_, (commitSwap_swapped p s).1.1⟩
      exact ⟨q, moved⟩
    · exact ⟨_, (commitSwap_swapped p s).1.1⟩
    · exact ⟨_, (plainWrap_wrapped p s).1⟩

/-! ## The LATE latch -/

section Late

variable {s x : State} {p q : Position}

/-- The position a LATE latch moves (R114). -/
def lateMoved (x : State) : State := forwardMove x.frame.slot.decided (lateTaken x)

/-- The pick engine at a LATE latch, before its fault (R114). -/
def lateAdvanced (x : State) : State := advance x.frame.slot.decided .stale none false 0 (lateTaken x)

/-- What a LATE latch takes away (R108, R114). -/
@[simp] theorem lateTaken_keeps :
    (lateTaken x).shaft = x.shaft ∧ (lateTaken x).pick.position = x.pick.position ∧
      (lateTaken x).pick.counter = x.pick.counter ∧ (lateTaken x).pick.history = x.pick.history ∧
      (lateTaken x).pick.fault = x.pick.fault ∧ (lateTaken x).pick.stopRequest = x.pick.stopRequest ∧
      (lateTaken x).pick.engine = x.pick.engine ∧
      (lateTaken x).pick.reforming = (x.pick.reforming && !x.frame.slot.isReform) ∧
      (lateTaken x).frame.slot = .empty ∧ (lateTaken x).frame.committed = [] ∧
      (lateTaken x).frame.pickFeeder = .noFrame ∧ (lateTaken x).frame.latched = x.frame.latched ∧
      (lateTaken x).frame.latchedDesc = x.frame.latchedDesc ∧ (lateTaken x).store.bankA = x.store.bankA ∧
      (lateTaken x).store.bankB = x.store.bankB ∧ (lateTaken x).harness = x.harness := by
  simp [lateTaken, clearFloat, Machine.discard, dropBurst]

theorem bank_lateTaken (k : BankId) : (lateTaken x).bank k = x.bank k := bank_congr (by simp) (by simp) k

/-- A LATE latch leaves the committed state cleared (R114). -/
theorem lateMoved_committed : (lateMoved x).frame.committed = [] := by
  unfold lateMoved forwardMove
  split
  · simp
  · split
    · simp
    · split
      · unfold wrapNow
        split <;> simp [plainWrap, commitSwap, refuseSwap]
      · simp [commitSwap]
      · simp [plainWrap]

/-- The count that finds no READY frame in WEAVING is a LATE latch (R114). -/
theorem exec_lateLatch (at_ : s.AtForwardLatch) (weaving : s.pick.engine = .weaving)
    (notReady : ∀ d, s.frame.slot ≠ .ready d) :
    exec (.encoderCount .forward) s =
      .next (latchMarks (reportFault .lateFrame .none (lateAdvanced (latchFound s)))) := by
  rw [exec_latch at_]
  have engine : (latchFound s).pick.engine = .weaving := by simpa using weaving
  have slot : ∀ d, (latchFound s).frame.slot ≠ .ready d := by simpa using notReady
  unfold latchEngine
  rw [if_pos engine]
  split
  next d ready => exact absurd ready (slot d)
  · rw [takeLate_eq]
    rfl

/-- Flags raised by the move of a LATE latch stay. -/
theorem lateMoved_flags (k : Link) (n : Nat) (set : ((lateMoved x).link k).flags.getLsbD n = true) :
    ((latchMarks (reportFault .lateFrame .none (lateAdvanced x))).link k).flags.getLsbD n = true :=
  ((later_reportFault _ .lateFrame .none).trans later_latchMarks).flags k n (advance_flags.1 k n set)

/-- What the pick engine keeps at a LATE latch before its fault (R114). -/
@[simp] theorem lateAdvanced_keeps :
    (lateAdvanced x).shaft = x.shaft ∧ (lateAdvanced x).pick.fault = x.pick.fault ∧
      (lateAdvanced x).pick.stopRequest = x.pick.stopRequest ∧ (lateAdvanced x).pick.engine = x.pick.engine ∧
      (lateAdvanced x).pick.reforming = (x.pick.reforming && !x.frame.slot.isReform) ∧
      (lateAdvanced x).frame.slot = .empty ∧ (lateAdvanced x).frame.latched = x.frame.latched ∧
      (lateAdvanced x).frame.latchedDesc = x.frame.latchedDesc ∧ (lateAdvanced x).frame.pickFeeder = .noFrame ∧
      (lateAdvanced x).harness = x.harness := by
  simp [lateAdvanced]

/-- What the pick engine makes of a LATE latch by the pick it moves to (R27, R31, R47). -/
theorem lateAdvanced_moved (moved : (lateMoved x).pick.position = some q) :
    (lateAdvanced x).pick.position = some q ∧ (lateAdvanced x).pick.counter = min (x.pick.counter + 1) 4294967295 ∧
      (∃ r : HistoryRecord, (lateAdvanced x).pick.history = (r :: x.pick.history).take 16 ∧ r.kind = .stale ∧
        r.counter = min (x.pick.counter + 1) 4294967295 ∧ r.position = q ∧ r.feeder = none ∧ r.substituted = false ∧
        r.bindCount = 0) ∧
      (lateAdvanced x).frame = (lateMoved x).frame ∧ (lateAdvanced x).store = (lateMoved x).store := by
  obtain ⟨at_, counter, -, ⟨r, history, kind, rcounter, position, feeder, substituted, bound, -⟩, frame, store⟩ :=
    advance_moved (kind := .stale) (f := none) (sub := false) (n := 0) moved
  exact ⟨at_, counter.trans (by simp), ⟨r, history.trans (by simp), kind, rcounter.trans (by simp), position, feeder,
    substituted, bound⟩, frame, store⟩

/-- Beside a bank that is not ARMED what follows the move of a LATE latch leaves the banks. -/
theorem bank_lateMoved (k : BankId) (moved : (lateMoved x).pick.position = some q)
    (free : ((lateMoved x).bank (otherBank q.bank)).state ≠ .armed) :
    (latchMarks (reportFault .lateFrame .none (lateAdvanced x))).bank k = (lateMoved x).bank k := by
  obtain ⟨at_, -, -, -, store⟩ := lateAdvanced_moved moved
  have banks (j : BankId) : (reportFault .lateFrame .none (lateAdvanced x)).bank j = (lateMoved x).bank j :=
    bank_congr (by simp [store]) (by simp [store]) j
  rw [bank_latchMarks k (by simpa using at_) (by rw [banks]; exact free), banks]

/-- A LATE latch at the end of the repeat (R35–R37, R114). -/
theorem lateMoved_wrap (at_ : x.pick.position = some p) (last : (x.article p.bank).len p.line ≤ p.step + 1)
    (wrap : (x.article p.bank).height ≤ p.line + 1) :
    lateMoved x = wrapBy x.frame.slot.decided p (lateTaken x) :=
  forwardMove_wrap (by simpa using at_) (by rw [State.article, bank_lateTaken]; exact last)
    (by rw [State.article, bank_lateTaken]; exact wrap)

/-- The swap decision that a LATE latch goes by (R35, R36, log 16). -/
theorem decided_eq (slot : Slot) :
    (∀ d v st b, slot = .assembling d v st → d.kind = .forward → d.swap = b → slot.decided = some b) ∧
      ((∀ d, slot ≠ .ready d) → (∀ d v st, slot = .assembling d v st → d.kind ≠ .forward) → slot.decided = none) := by
  refine ⟨fun d v st b assembling forward mark => by simp [assembling, Slot.decided, forward, mark], fun notReady other => ?_⟩
  cases h : slot with
  | empty => rfl
  | assembling d v st => simp [Slot.decided, other d v st h]
  | ready d => exact absurd h (notReady d)

end Late

section LateLatch

variable {s x : State} {p : Position}

/-- The wrap of a LATE latch: a swap, a wrap within the article or a refused swap, as the state after the marks shows it
(R35–R37, R114). -/
theorem lateLatch_wraps (at_ : x.pick.position = some p) (last : (x.article p.bank).len p.line ≤ p.step + 1)
    (wrap : (x.article p.bank).height ≤ p.line + 1) :
    let t := latchMarks (reportFault .lateFrame .none (lateAdvanced x))
    let armed := (x.bank (otherBank p.bank)).state = .armed
    let fits := x.fits (otherBank p.bank)
    (x.frame.slot.decided = some true ∨ (x.frame.slot.decided = none ∧ armed ∧ fits = true) → t.Swapped p) ∧
      (x.frame.slot.decided = some false ∨ (x.frame.slot.decided = none ∧ (¬ armed ∨ fits = false)) →
        t.pick.position = some { bank := p.bank, line := 0, step := 0, rep := min (p.rep + 1) 65535 } ∧
          t.loom.flags.getLsbD 2 = true ∧ t.design.flags.getLsbD 1 = true) ∧
      (x.frame.slot.decided = none → armed → fits = false →
        (t.bank (otherBank p.bank)).state = .ready ∧ t.loom.flags.getLsbD 4 = true ∧ t.design.flags.getLsbD 3 = true) := by
  intro t armed fits
  have move := lateMoved_wrap at_ last wrap
  have same : (lateTaken x).fits (otherBank p.bank) = fits := by
    rw [State.fits, State.article, bank_lateTaken, lateTaken_keeps.2.2.2.2.2.2.2.2.2.2.2.2.2.2.2]
    rfl
  have bank : ((lateTaken x).bank (otherBank p.bank)).state = (x.bank (otherBank p.bank)).state := by rw [bank_lateTaken]
  have position {q : Position} (moved : (lateMoved x).pick.position = some q) : t.pick.position = some q := by
    simpa [t] using (lateAdvanced_moved moved).1
  have swapped (h : (lateMoved x).Swapped p) : t.Swapped p := by
    refine Swapped.later h ((position h.1).trans h.1.symm) (fun k => bank_lateMoved k h.1 ?_) lateMoved_flags
    rw [otherBank_otherBank, h.2.1]
    decide
  have wrapped (h : (lateMoved x).pick.position =
        some { bank := p.bank, line := 0, step := 0, rep := min (p.rep + 1) 65535 } ∧
      (lateMoved x).loom.flags.getLsbD 2 = true ∧ (lateMoved x).design.flags.getLsbD 1 = true) :
      t.pick.position = some { bank := p.bank, line := 0, step := 0, rep := min (p.rep + 1) 65535 } ∧
        t.loom.flags.getLsbD 2 = true ∧ t.design.flags.getLsbD 1 = true :=
    ⟨position h.1, lateMoved_flags .loom 2 h.2.1, lateMoved_flags .design 1 h.2.2⟩
  obtain ⟨swaps, plain, refuses⟩ := wrapNow_cases p (lateTaken x)
  rw [same, bank] at swaps plain refuses
  refine ⟨?_, ?_, fun none_ isArmed wide => ?_⟩
  · rintro (mark | ⟨none_, isArmed, fit⟩) <;> refine swapped ?_ <;> rw [move]
    · rw [mark]
      exact (commitSwap_swapped p _).1
    · rw [none_]
      exact (swaps isArmed fit).1
  · rintro (mark | ⟨none_, stays⟩) <;> refine wrapped ?_ <;> rw [move]
    · rw [mark]
      exact plainWrap_wrapped p _
    · rw [none_]
      exact plain stays
  · have at' : (lateMoved x).pick.position =
        some { bank := p.bank, line := 0, step := 0, rep := min (p.rep + 1) 65535 } := by
      rw [move, none_]
      exact (plain (.inr wide)).1
    have refused : ((lateMoved x).bank (otherBank p.bank)).state = .ready ∧
        (lateMoved x).loom.flags.getLsbD 4 = true ∧ (lateMoved x).design.flags.getLsbD 3 = true := by
      rw [move, none_]
      exact refuses isArmed wide
    obtain ⟨ready, loom, design⟩ := refused
    refine ⟨?_, lateMoved_flags .loom 4 loom, lateMoved_flags .design 3 design⟩
    rw [bank_lateMoved _ at' (by rw [ready]; decide)]
    exact ready

/-- The fault of a LATE latch, as the state after the marks shows it (R114, R170–R173). -/
theorem lateLatch_reports :
    let t := latchMarks (reportFault .lateFrame .none (lateAdvanced x))
    (x.StopFollows → t.pick.stopRequest = true) ∧
      (x.pick.fault = none → ∃ r, t.pick.fault = some r ∧ r.kind = .lateFrame ∧ r.counter = t.pick.counter ∧
        r.position = t.pick.position ∧ r.angle = x.shaft.angle) ∧
      (∀ r, x.pick.fault = some r → ∃ r', t.pick.fault = some r' ∧ r'.kind = r.kind ∧ r'.cause = r.cause ∧
        r'.counter = r.counter ∧ r'.position = r.position ∧ r'.angle = r.angle ∧ r'.laterKinds.lateFrame = true) := by
  intro t
  have later : Later (reportFault .lateFrame .none (lateAdvanced x)) t := later_latchMarks
  refine ⟨fun follows => later.stop (by simp) ?_, fun empty => ?_, fun r held => ?_⟩
  · have same : (lateAdvanced x).StopFollows := stopFollows_congr (by simp) (by simp) (by simp) follows
    rw [stopFollows_reportFault .lateFrame .none same]
    simp
  · obtain ⟨made, -⟩ := reportFault_first .lateFrame .none (s := lateAdvanced x) (by simpa using empty)
    obtain ⟨r, held, same⟩ := later.fault _ made
    exact ⟨r, held, same.kind, same.counter.trans (by simp [t]), same.position.trans (by simp [t]),
      same.angle.trans (by simp)⟩
  · have made := reportFault_later .lateFrame .none (s := lateAdvanced x) (r := r) (by simpa using held)
    obtain ⟨r', held', same⟩ := later.fault _ made
    exact ⟨r', held', same.kind, same.cause, same.counter, same.position, same.angle, same.lateFrame rfl⟩

end LateLatch

/-- Settles O12: the move of a LATE latch by its cases; the counter, the record and the fault by the lemmas above. -/
theorem lateLatchKeepsTheShed : Obligations.LateLatchKeepsTheShed := by
  unfold Obligations.LateLatchKeepsTheShed
  intro s p at_ weaving notReady at'
  refine ⟨_, exec_lateLatch at_ weaving notReady, ?_⟩
  obtain ⟨x, found⟩ : ∃ x, x = latchFound s := ⟨_, rfl⟩
  have here : x.pick.position = some p := by simpa [found] using at'
  have banks (k : BankId) : x.bank k = s.bank k := by simp [found, State.bank]
  have article : x.article p.bank = s.article p.bank := by rw [State.article, banks]; rfl
  have fits : x.fits (otherBank p.bank) = s.fits (otherBank p.bank) := by
    rw [State.fits, State.article, banks, show x.harness.live = s.harness.live by simp [found]]
    rfl
  have slot : x.frame.slot = s.frame.slot := by simp [found]
  have count : x.pick.counter = s.pick.counter := by simp [found]
  have past : x.pick.history = s.pick.history := by simp [found]
  have here' : (lateTaken x).pick.position = some p := by simpa using here
  have article' : (lateTaken x).article p.bank = s.article p.bank := by rw [State.article, bank_lateTaken]; exact article
  obtain ⟨q, moved⟩ := exists_forwardMove x.frame.slot.decided here'
  obtain ⟨at'', counter, ⟨r, history, kind, rcounter, rposition, feeder, substituted, bound⟩, frame, -⟩ :=
    lateAdvanced_moved moved
  have slack : x.shaft.slack = 0 := by
    have none_ : (latchCount s).findsReady = false := by simpa using findsReady_of_none (.inr notReady)
    simp [found, latchFound, latchTracker, Shaft.takeSlack, none_]
  have position : (latchMarks (reportFault .lateFrame .none (lateAdvanced x))).pick.position =
      (lateMoved x).pick.position := by rw [show (lateMoved x).pick.position = some q from moved]; simpa using at''
  obtain ⟨stop, first, later⟩ := lateLatch_reports (x := x)
  rw [← found]
  refine ⟨by simp [found], by simp [found], by simp, by simp [slack], ?_, fun away => ?_, fun within => ?_,
    fun last line => ?_, fun last wrap => ?_, by simp [counter, count],
    ⟨r, by simp [history, past], kind, by simp [rcounter, counter], by simp [rposition, at''], feeder, substituted, bound⟩,
    fun follows => stop (stopFollows_congr (by simp [found]) (by simp [found]) (by simp [found]) follows),
    fun empty => ?_, fun r held => later r (by simpa [found] using held)⟩
  · simp [frame, lateMoved_committed]
  · obtain ⟨empty, reforming, -⟩ := latchMarks_away (y := reportFault .lateFrame .none (lateAdvanced x))
      (by simp [found]) (by simpa [found] using away)
    exact ⟨empty.trans (by simp), fun reform => reforming.trans (by simp [slot, reform])⟩
  · rw [position, lateMoved, forwardMove_within here' (by rw [article']; exact within)]
    rfl
  · rw [position, lateMoved, forwardMove_nextLine here' (by rw [article']; exact last) (by rw [article']; exact line)]
    rfl
  · obtain ⟨swaps, plain, refuses⟩ := lateLatch_wraps here (by rw [article]; exact last) (by rw [article]; exact wrap)
    rw [banks, fits, slot] at swaps plain refuses
    obtain ⟨marked, none_⟩ := decided_eq s.frame.slot
    refine ⟨fun ⟨d, v, st, held, forward, mark⟩ => swaps (.inl (marked d v st true held forward mark)),
      fun ⟨d, v, st, held, forward, mark⟩ => plain (.inl (marked d v st false held forward mark)), fun other => ?_⟩
    have open_ := none_ notReady other
    exact ⟨fun armed fit => swaps (.inr ⟨open_, armed, fit⟩), fun stays => plain (.inr ⟨open_, stays⟩),
      fun armed wide => refuses open_ armed wide⟩
  · obtain ⟨r, held, kind, counter, position, angle⟩ := first (by simpa [found] using empty)
    exact ⟨r, held, kind, counter, position, angle.trans (by simp [found])⟩

end Sys2Proof.Proofs
end

section
/-! PROOF. The latch of a READY frame (R113): the alternation, the float guard's commit and its report. -/

namespace Sys2Proof.Proofs

open Sys2Proof.Machine

/-! ## Alternation and the float guard's commit -/

/-- The alternation states after a latch, in the words of R93. -/
theorem alternates_alternationAfter (d : Descriptor) (old : Vector Alternation 8) :
    Alternates d old (alternationAfter d old) := by
  refine ⟨fun e a entry mode alternate => ⟨fun primary => ?_, fun second other => ?_, fun out => ?_⟩, fun single => ?_⟩
  · simp [alternationAfter, entry, primary, mode, alternate]
  · simp [alternationAfter, entry, second, mode, alternate, other]
  · simp [alternationAfter, out]
  · unfold alternationAfter
    split
    next e f entry resolved =>
      split
      next a mode alternate => exact absurd (mode.symm.trans (single e a entry alternate)) (by decide)
      · rfl
    · rfl

section Guard

variable (t : HarnessTable) (g : GuardSettings) (sel : Selection) (l : List FloatRun) (h : Nat)

/-- The test for a FIGURE hook says what R55 and R74 call one. -/
theorem isFigure_iff : t.isFigure h = true ↔ t.FigureHook h := by
  unfold HarnessTable.isFigure
  cases held : t.sectionAt h with
  | none => simp [held]
  | some x =>
    cases kind : x.kind with
    | figure c0 w m => exact ⟨fun _ => ⟨x, c0, w, m, held, kind⟩, fun _ => by simp only [kind]⟩
    | selvage j => simp [held, kind]
    | dead => simp [held, kind]

/-- The committed state of a hook after the commit of R79. -/
theorem commitRuns_getD :
    (commitRuns t g sel l).getD h { sense := .none, run := 0 } =
      if h < t.hooks ∧ t.isFigure h = true then growRun g (committedAt l h) (hookLift sel t h)
      else { sense := .none, run := 0 } := by
  by_cases within : h < t.hooks <;> simp [commitRuns, within, List.getD_eq_getElem?_getD]

/-- A hook that is no FIGURE hook of the table has no committed state (R74, R79). -/
theorem commitRuns_outside (out : t.hooks ≤ h ∨ ¬ t.FigureHook h) :
    (commitRuns t g sel l).getD h { sense := .none, run := 0 } = { sense := .none, run := 0 } := by
  rw [commitRuns_getD, if_neg]
  rw [isFigure_iff]
  rintro ⟨within, figure⟩
  exact out.elim (fun beyond => absurd within (by omega)) (fun other => other figure)

/-- The run of a FIGURE hook after the commit of a delivered lift (R79). -/
theorem commitRuns_figure (within : h < t.hooks) (figure : t.FigureHook h) :
    (commitRuns t g sel l).getD h { sense := .none, run := 0 } =
      if (committedAt l h).sense = senseOf (hookLift sel t h) then
        { sense := (committedAt l h).sense, run := min ((committedAt l h).run + 1) (g.cap (hookLift sel t h)) }
      else { sense := senseOf (hookLift sel t h), run := 1 } := by
  rw [commitRuns_getD, if_pos ⟨within, (isFigure_iff t h).mpr figure⟩, growRun]
  split
  next same => rw [same]
  · rfl

end Guard

/-! ## The latch of a READY frame -/

section Ready

variable {s x y : State} {d : Descriptor} {p q : Position}

/-- The position a READY latch moves (R113). -/
def readyMoved (d : Descriptor) (x : State) : State := forwardMove (some d.swap) (readyTaken d x)

/-- The pick engine at a READY latch, before alternation and float guard (R113). -/
def readyAdvanced (d : Descriptor) (x : State) : State :=
  advance (some d.swap) .forward d.resolved d.substituted d.bindCount (readyTaken d x)

@[simp] theorem readyTaken_keeps :
    (readyTaken d x).shaft = x.shaft ∧ (readyTaken d x).pick = x.pick ∧ (readyTaken d x).store = x.store ∧
      (readyTaken d x).harness = x.harness ∧ (readyTaken d x).frame.guard = x.frame.guard ∧
      (readyTaken d x).frame.committed = x.frame.committed ∧ (readyTaken d x).frame.alternation = x.frame.alternation ∧
      (readyTaken d x).frame.slot = .empty ∧ (readyTaken d x).frame.latched = x.frame.staged ∧
      (readyTaken d x).frame.latchedDesc = some d ∧ (readyTaken d x).frame.pickFeeder = .frame d.resolved := by
  simp [readyTaken]

@[simp] theorem readyAdvanced_keeps :
    (readyAdvanced d x).shaft = x.shaft ∧ (readyAdvanced d x).harness = x.harness ∧
      (readyAdvanced d x).pick.fault = x.pick.fault ∧ (readyAdvanced d x).frame.guard = x.frame.guard ∧
      (readyAdvanced d x).frame.slot = .empty ∧ (readyAdvanced d x).frame.latched = x.frame.staged ∧
      (readyAdvanced d x).frame.latchedDesc = some d ∧
      (readyAdvanced d x).frame.pickFeeder = .frame d.resolved := by
  simp [readyAdvanced]

/-- What follows the move of a READY latch leaves of the state (R78–R80, R93). -/
@[simp] theorem readyTail_keeps :
    (readyTail d y).shaft = y.shaft ∧ (readyTail d y).harness = y.harness ∧ (readyTail d y).store = y.store ∧
      (readyTail d y).pick.position = y.pick.position ∧ (readyTail d y).pick.counter = y.pick.counter ∧
      (readyTail d y).pick.history = y.pick.history ∧ (readyTail d y).pick.exchangeNote = y.pick.exchangeNote ∧
      (readyTail d y).frame.slot = y.frame.slot ∧ (readyTail d y).frame.latched = y.frame.latched ∧
      (readyTail d y).frame.latchedDesc = y.frame.latchedDesc ∧ (readyTail d y).frame.pickFeeder = y.frame.pickFeeder ∧
      (readyTail d y).frame.alternation = alternationAfter d y.frame.alternation := by
  unfold readyTail
  dsimp only
  split <;> simp

/-- The float guard at a READY latch (R79, R80). -/
theorem readyTail_committed :
    (readyTail d y).frame.committed =
      if d.level || d.swap then []
      else if y.frame.guard.mode = .off then y.frame.committed
      else commitRuns y.harness.live y.frame.guard y.frame.latched y.frame.committed := by
  have float (z : State) : (latchFloat d z).frame.committed =
      if d.level || d.swap then []
      else if z.frame.guard.mode = .off then z.frame.committed
      else commitRuns z.harness.live z.frame.guard z.frame.latched z.frame.committed := by
    unfold latchFloat
    split
    · simp [clearFloat]
    · split <;> rfl
  unfold readyTail
  dsimp only
  split <;> simp [float]

/-- Without a FLOAT VIOLATION mark the latch reports nothing (R78). -/
theorem readyTail_clear (clear : d.violation = false) : (readyTail d y).pick.fault = y.pick.fault := by
  simp [readyTail, clear]

/-- A FLOAT VIOLATION mark reports FLOAT LIMIT (R78). -/
theorem readyTail_violation (mark : d.violation = true) :
    ∃ z : State, readyTail d y = reportFault .floatLimit .none z ∧ z.pick.fault = y.pick.fault ∧
      z.pick.counter = y.pick.counter ∧ z.pick.position = y.pick.position ∧ z.shaft = y.shaft := by
  refine ⟨latchFloat d { y with frame.alternation := alternationAfter d y.frame.alternation }, ?_, ?_⟩
  · simp [readyTail, mark]
  · simp

/-- The move of a READY latch within the repeat, or in a frame without a swap mark, leaves the frame builder, the banks
and the note of a swap (R24). -/
theorem readyMoved_stays (at_ : x.pick.position = some p)
    (stays : p.step + 1 < (x.article p.bank).len p.line ∨ p.line + 1 < (x.article p.bank).height ∨ d.swap = false) :
    (readyMoved d x).frame = (readyTaken d x).frame ∧ (readyMoved d x).store = x.store ∧
      (readyMoved d x).pick.exchangeNote = x.pick.exchangeNote := by
  have here : (readyTaken d x).pick.position = some p := at_
  unfold readyMoved
  by_cases within : p.step + 1 < (x.article p.bank).len p.line
  · rw [forwardMove_within here within]
    simp
  · by_cases line : p.line + 1 < (x.article p.bank).height
    · rw [forwardMove_nextLine here (Nat.le_of_not_lt within) line]
      simp
    · rw [forwardMove_wrap here (Nat.le_of_not_lt within) (Nat.le_of_not_lt line),
        (stays.resolve_left within).resolve_left line]
      simp [wrapBy, plainWrap]

/-- The move of a READY latch with a swap mark at the end of the repeat commits the swap (R36). -/
theorem readyMoved_swaps (at_ : x.pick.position = some p) (last : (x.article p.bank).len p.line ≤ p.step + 1)
    (wrap : (x.article p.bank).height ≤ p.line + 1) (mark : d.swap = true) :
    readyMoved d x = commitSwap p (readyTaken d x) := by
  rw [readyMoved, forwardMove_wrap (s := readyTaken d x) at_ last wrap, mark]
  rfl

/-- The count that finds a READY frame in WEAVING latches it (R113). -/
theorem exec_readyLatch (at_ : s.AtForwardLatch) (weaving : s.pick.engine = .weaving) (ready : s.frame.slot = .ready d) :
    exec (.encoderCount .forward) s = .next (latchMarks (readyTail d (readyAdvanced d (latchFound s)))) := by
  have slot : (latchFound s).frame.slot = .ready d := by simpa using ready
  rw [exec_latch at_, latchEngine, if_pos (by simpa using weaving), slot]
  rfl

/-- Flags raised by the move of a READY latch stay. -/
theorem readyMoved_flags (k : Link) (n : Nat) (set : ((readyMoved d x).link k).flags.getLsbD n = true) :
    ((latchMarks (readyTail d (readyAdvanced d x))).link k).flags.getLsbD n = true :=
  ((later_readyTail d _).trans later_latchMarks).flags k n (advance_flags.1 k n set)

/-- What the pick engine makes of a READY latch by the pick it moves to (R27, R31, R47–R49). -/
theorem readyAdvanced_moved (moved : (readyMoved d x).pick.position = some q) :
    (readyAdvanced d x).pick.position = some q ∧ (readyAdvanced d x).pick.counter = min (x.pick.counter + 1) 4294967295 ∧
      (readyAdvanced d x).pick.exchangeNote = false ∧
      (∃ r : HistoryRecord, (readyAdvanced d x).pick.history = (r :: x.pick.history).take 16 ∧ r.kind = .forward ∧
        r.counter = min (x.pick.counter + 1) 4294967295 ∧ r.position = q ∧ r.feeder = d.resolved ∧
        r.substituted = d.substituted ∧ r.bindCount = d.bindCount ∧
        r.swapFlag = (readyMoved d x).pick.exchangeNote) ∧
      (readyAdvanced d x).frame = (readyMoved d x).frame ∧ (readyAdvanced d x).store = (readyMoved d x).store :=
  advance_moved (kind := .forward) (f := d.resolved) (sub := d.substituted) (n := d.bindCount) moved

/-- The swap of a READY latch, as the state after the marks shows it (R36). -/
theorem readyLatch_swapped (swapped : (readyMoved d x).Swapped p) :
    (latchMarks (readyTail d (readyAdvanced d x))).Swapped p := by
  obtain ⟨at_, -, -, -, -, store⟩ := readyAdvanced_moved swapped.1
  have banks (k : BankId) : (readyTail d (readyAdvanced d x)).bank k = (readyMoved d x).bank k :=
    bank_congr (by simp [store]) (by simp [store]) k
  refine Swapped.later swapped ((show _ = _ by simpa using at_).trans swapped.1.symm) (fun k => ?_) readyMoved_flags
  rw [bank_latchMarks (p := { bank := otherBank p.bank, line := 0, step := 0, rep := 0 }) k (by simpa using at_), banks]
  rw [banks, otherBank_otherBank, swapped.2.1]
  decide

/-- The report of a FLOAT VIOLATION mark, as the state after the marks shows it (R78, R170–R172). -/
theorem readyLatch_violation (mark : d.violation = true) (zero : x.shaft.offset = 0) :
    let t := latchMarks (readyTail d (readyAdvanced d x))
    (x.pick.fault = none → ∃ r, t.pick.fault = some r ∧ r.kind = .floatLimit ∧ r.cause = .none ∧
      r.counter = t.pick.counter ∧ r.position = t.pick.position ∧ r.angle = x.shaft.angle ∧
      t.loom.flags.getLsbD 0 = true ∧ t.design.flags.getLsbD 0 = true ∧ t.pick.stopRequest = true ∧
      (x.shaft.timing.frameStart ≠ 0 → x.shaft.timing.weftSelect ≠ 0 →
        r.laterCount = 0 ∧ r.laterKinds = .empty)) ∧
    (∀ r, x.pick.fault = some r → ∃ r', t.pick.fault = some r' ∧ r'.kind = r.kind ∧ r'.cause = r.cause ∧
      r'.counter = r.counter ∧ r'.position = r.position ∧ r'.angle = r.angle ∧ r'.laterKinds.floatLimit = true ∧
      (x.shaft.timing.frameStart ≠ 0 → x.shaft.timing.weftSelect ≠ 0 →
        r'.laterCount = min (r.laterCount + 1) 255 ∧ r'.laterKinds = { r.laterKinds with floatLimit := true })) := by
  intro t
  obtain ⟨z, made, fault, counter, position, shaft⟩ := readyTail_violation (y := readyAdvanced d x) mark
  have later : Later (reportFault .floatLimit .none z) t := by
    rw [← made]
    exact later_latchMarks
  have exact_ (away : x.shaft.timing.frameStart ≠ 0) (select : x.shaft.timing.weftSelect ≠ 0) :
      t.pick.fault = (reportFault .floatLimit .none z).pick.fault := by
    rw [← made]
    exact latchMarks_fault (by simpa using zero) (by simpa using away) (by simpa using select)
  have tcounter : t.pick.counter = z.pick.counter := by simp [t, counter]
  have tposition : t.pick.position = z.pick.position := by simp [t, position]
  refine ⟨fun empty => ?_, fun r held => ?_⟩
  · obtain ⟨first, loom, design, stop⟩ := reportFault_first .floatLimit .none (s := z) (fault.trans (by simpa using empty))
    obtain ⟨r, held, same⟩ := later.fault _ first
    refine ⟨r, held, same.kind, same.cause, same.counter.trans tcounter.symm, same.position.trans tposition.symm,
      same.angle.trans (by simp [shaft]), later.flags .loom 0 loom, later.flags .design 0 design,
      later.stop (by simp [first]) stop, fun away select => ?_⟩
    have here := Option.some.inj (held.symm.trans ((exact_ away select).trans first))
    exact ⟨by rw [here], by rw [here]⟩
  · have further := reportFault_later .floatLimit .none (s := z) (r := r) (fault.trans (by simpa using held))
    obtain ⟨r', held', same⟩ := later.fault _ further
    refine ⟨r', held', same.kind, same.cause, same.counter, same.position, same.angle, same.floatLimit rfl,
      fun away select => ?_⟩
    have here := Option.some.inj (held'.symm.trans ((exact_ away select).trans further))
    exact ⟨by rw [here], by rw [here]; rfl⟩

end Ready

/-- Settles O11: the move by its cases, then alternation, float guard and report by the lemmas above. -/
theorem forwardLatchTakesReadyFrame : Obligations.ForwardLatchTakesReadyFrame := by
  unfold Obligations.ForwardLatchTakesReadyFrame
  rintro s d p _ at_ weaving ready at' rfl
  refine ⟨_, exec_readyLatch at_ weaving ready, ?_⟩
  obtain ⟨x, found⟩ : ∃ x, x = latchFound s := ⟨_, rfl⟩
  rw [← found]
  have here : x.pick.position = some p := by simpa [found] using at'
  have article : x.article p.bank = s.article p.bank := by simp [found, State.article, State.bank]
  obtain ⟨frame, pick, store⟩ : x.frame = s.frame ∧ x.pick = s.pick ∧ x.store = s.store := by simp [found]
  obtain ⟨live, zero, timing, angle⟩ : x.harness.live = s.harness.live ∧ x.shaft.offset = 0 ∧
      x.shaft.timing = s.shaft.timing ∧ x.shaft.angle = (s.shaft.angle + 1) % 1024 := by simp [found]
  obtain ⟨q, moved⟩ := exists_forwardMove (s := readyTaken d x) (some d.swap) here
  obtain ⟨at'', counter, note, ⟨r, history, kind, rcounter, rposition, feeder, substituted, bound, flag⟩, mframe,
    mstore⟩ := readyAdvanced_moved moved
  have position : (latchMarks (readyTail d (readyAdvanced d x))).pick.position = (readyMoved d x).pick.position := by
    rw [show (readyMoved d x).pick.position = some q from moved]
    simpa using at''
  have alternation : (latchMarks (readyTail d (readyAdvanced d x))).frame.alternation =
      alternationAfter d (readyMoved d x).frame.alternation := by simp [mframe]
  have committed : (latchMarks (readyTail d (readyAdvanced d x))).frame.committed =
      (if d.level || d.swap then []
      else if s.frame.guard.mode = .off then s.frame.committed
      else commitRuns s.harness.live s.frame.guard s.frame.staged s.frame.committed) := by
    rw [latchMarks_keeps.2.2.2.2.2.2.2.2.2.2.1, readyTail_committed]
    by_cases cleared : (d.level || d.swap) = true
    · rw [if_pos cleared, if_pos cleared]
    · have stays := (readyMoved_stays (d := d) here (.inr (.inr (by simp at cleared; exact cleared.2)))).1
      rw [show (readyAdvanced d x).frame.committed = s.frame.committed by simp [mframe, stays, frame]]
      simp [frame, live]
  have stays (h : p.step + 1 < (s.article p.bank).len p.line ∨ p.line + 1 < (s.article p.bank).height ∨ d.swap = false) :=
    readyMoved_stays (d := d) here (by rwa [article])
  have swaps (last : (s.article p.bank).len p.line ≤ p.step + 1) (wrap : (s.article p.bank).height ≤ p.line + 1)
      (mark : d.swap = true) := readyMoved_swaps here (by rwa [article]) (by rwa [article]) mark
  refine ⟨by simp [zero], by simp [frame], by simp, by simp, fun away => ?_, fun within => ?_, fun last line => ?_,
    fun last wrap => ⟨fun mark => ⟨?_, ?_⟩, fun plain => ?_⟩, fun h => ?_, by simp [counter, pick],
    ⟨r, by simp [history, pick], kind, by simp [rcounter, counter], by simp [rposition, at''], feeder, substituted, bound,
      fun last wrap mark => ?_, fun h => ?_⟩, by simp [note], committed, ?_, fun mark => ?_, fun clear away select => ?_,
    fun away plain => ?_⟩
  · exact (latchMarks_away (by simpa using zero) (by simpa [timing] using away)).1.trans (by simp)
  · rw [position, readyMoved, forwardMove_within (s := readyTaken d x) here (by rw [← article] at within; exact within)]
    rfl
  · rw [position, readyMoved, forwardMove_nextLine (s := readyTaken d x) here (by rw [← article] at last; exact last)
      (by rw [← article] at line; exact line)]
    rfl
  · refine readyLatch_swapped ?_
    rw [swaps last wrap mark]
    exact (commitSwap_swapped p _).1
  · rw [alternation, swaps last wrap mark, (commitSwap_swapped p _).2.1]
    exact alternates_alternationAfter d _
  · have wrapped : readyMoved d x = plainWrap p (readyTaken d x) := by
      rw [readyMoved, forwardMove_wrap (s := readyTaken d x) here (by rw [← article] at last; exact last)
        (by rw [← article] at wrap; exact wrap), plain]
      rfl
    obtain ⟨wrapped', loom, design⟩ := plainWrap_wrapped p (readyTaken d x)
    rw [← wrapped] at wrapped' loom design
    exact ⟨position.trans wrapped', readyMoved_flags .loom 2 loom, readyMoved_flags .design 1 design⟩
  · rw [alternation, (stays h).1, show (readyTaken d x).frame.alternation = s.frame.alternation by simp [frame]]
    exact alternates_alternationAfter d _
  · rw [flag, swaps last wrap mark]
    exact (commitSwap_swapped p _).2.2.2
  · rw [flag, (stays h).2.2, pick]
  · rintro level plain mode h b run rfl rfl
    rw [committed, if_neg (by simp [level, plain]), if_neg mode]
    refine ⟨fun within figure => ?_, commitRuns_outside _ _ _ _ _⟩
    have grown := commitRuns_figure _ s.frame.guard s.frame.staged s.frame.committed _ within figure
    cases lift : hookLift s.frame.staged s.harness.live h <;> rw [lift] at grown <;> exact grown
  · have report := readyLatch_violation (x := x) mark zero
    rw [pick, timing, angle] at report
    exact report
  · rw [latchMarks_fault (by simpa using zero) (by simpa [timing] using away) (by simpa [timing] using select),
      readyTail_clear clear]
    simp [pick]
  · rw [(latchMarks_away (by simpa using zero) (by simpa [timing] using away)).2.2]
    simp [mstore, (stays (.inr (.inr plain))).2.1, store]

end Sys2Proof.Proofs
end

section
/-! PROOF. The angle marks of a forward count (R11): frame start (R104), weft select (R95), weft gate (R99). -/

namespace Sys2Proof.Proofs

open Sys2Proof.Machine

/-! ## The count up to its marks -/

section Count

variable {s x y z : State} {p q : Position}

/-- The state that the marks find at a forward count which is no latch (R8, R11). -/
def counted (s : State) : State :=
  let t := countShaft .forward s
  { t with shaft.offset := t.shaft.offset + 1 }

@[simp] theorem counted_keeps :
    (counted s).shaft.offset = s.shaft.offset + 1 ∧ (counted s).shaft.timing = s.shaft.timing ∧
      (counted s).shaft.angle = (s.shaft.angle + 1) % 1024 ∧ (counted s).pick = s.pick ∧
      (counted s).frame.slot = s.frame.slot ∧ (counted s).frame.level = s.frame.level ∧
      (counted s).frame.latched = s.frame.latched ∧ (counted s).frame.alternation = s.frame.alternation ∧
      (counted s).frame.available = s.frame.available ∧ (counted s).frame.output = s.frame.output ∧
      (counted s).frame.gate = s.frame.gate ∧ (counted s).store = s.store ∧ (counted s).harness.live = s.harness.live ∧
      (counted s).loom = s.loom ∧ (counted s).design = s.design := by
  simp [counted, countShaft, angleAfter]

/-- A forward count that is no latch takes the marks (R8, R11). -/
theorem exec_counted (awake : s.inReset = false) (ref : s.shaft.reference = .referenced) (away : s.shaft.offset ≠ 1023) :
    exec (.encoderCount .forward) s = .next (crossMarks (counted s)) := by
  rw [exec_encoderCount s .forward awake, shaftCount_forward s ref, countForward,
    if_neg (by simpa using by omega)]
  rfl

/-- Every forward count in REFERENCED takes the marks at its new offset, with the feeder output, the availability and the
gate as they were (R8, R9, R11). -/
theorem exec_marks (awake : s.inReset = false) (ref : s.shaft.reference = .referenced) :
    ∃ z, exec (.encoderCount .forward) s = .next (crossMarks z) ∧
      z.shaft.offset = (if s.shaft.offset = 1023 then 0 else s.shaft.offset + 1) ∧ z.shaft.timing = s.shaft.timing ∧
      z.pick.engine = s.pick.engine ∧ z.frame.available = s.frame.available ∧ z.frame.output = s.frame.output ∧
      z.frame.gate = s.frame.gate := by
  by_cases latch : s.shaft.offset = 1023
  · refine ⟨restartStandstill (latchEngine (latchFound s)), exec_latch ⟨awake, ref, latch⟩, ?_⟩
    simp [latch]
  · refine ⟨counted s, exec_counted awake ref latch, ?_⟩
    simp [latch]

/-- What the marks leave of the gate (R99). -/
theorem crossMarks_gate : (crossMarks z).frame.gate =
    if z.shaft.crosses z.shaft.timing.gateOff then false
    else if z.shaft.crosses z.shaft.timing.gateOn && z.pick.engine == .weaving then true else z.frame.gate := by
  have marked (x : State) (on off : Bool) : (gateMarks on off x).frame.gate =
      if off then false else if on && x.pick.engine == .weaving then true else x.frame.gate := by
    unfold gateMarks
    split
    · rfl
    · split <;> rfl
  have engine : (if z.shaft.crosses z.shaft.timing.frameStart then startForward z else z).pick.engine = z.pick.engine ∧
      (if z.shaft.crosses z.shaft.timing.frameStart then startForward z else z).frame.gate = z.frame.gate := by
    split <;> simp
  simp only [crossMarks, marked]
  split
  · rfl
  · split <;> simp [engine]

/-- The crossing of the weft select mark comes after that of the frame start mark (R11, log 29). -/
theorem crossMarks_select (select : z.shaft.crosses z.shaft.timing.weftSelect = true) :
    ∃ x on off, crossMarks z = gateMarks on off (weftSelect x) ∧ x.pick.engine = z.pick.engine ∧
      x.frame.available = z.frame.available ∧ x.frame.output = z.frame.output := by
  refine ⟨if z.shaft.crosses z.shaft.timing.frameStart then startForward z else z,
    z.shaft.crosses z.shaft.timing.gateOn, z.shaft.crosses z.shaft.timing.gateOff, ?_, ?_⟩
  · simp only [crossMarks, select, if_true]
  · split <;> simp

/-- The crossing of the frame start mark alone, or before that of the weft select mark (R11, log 29). -/
theorem crossMarks_start (start : z.shaft.crosses z.shaft.timing.frameStart = true) :
    ∃ on off, crossMarks z = gateMarks on off
      (if z.shaft.crosses z.shaft.timing.weftSelect then weftSelect (startForward z) else startForward z) := by
  refine ⟨z.shaft.crosses z.shaft.timing.gateOn, z.shaft.crosses z.shaft.timing.gateOff, ?_⟩
  simp only [crossMarks, start, if_true]

end Count

/-! ## The feeder output at a mark or a re-form -/

section Output

variable {x : State} {f : Option (Fin 8)} {d : Descriptor}

/-- Presenting a feeder (R95–R97). -/
theorem presentFeeder_presents :
    Presents f d.entry x.frame.available (presentFeeder f d x).frame.output ∧
      (∀ y g, f = some y → x.frame.available[y] = false → (presentFeeder f d x).frame.output = some g →
        some g ≠ d.resolved → (presentFeeder f d x).loom.flags.getLsbD 12 = true) ∧
      (∀ y, f = some y → x.frame.available[y] = false → (presentFeeder f d x).frame.output = none →
        (presentFeeder f d x).pick.fault.isSome = true) := by
  have out (y : Fin 8) (feeder : f = some y) (gone : x.frame.available[y] = false) : presentFeeder f d x =
      reResolveOutput { system := d.system, entry := d.entry, resolved := d.resolved } x := by
    simp [presentFeeder, presentable, feeder, gone]
  refine ⟨⟨fun feeder => ?_, fun y feeder there => ?_, fun y e feeder gone entry => ?_⟩,
    fun y g feeder gone output other => ?_, fun y feeder gone output => ?_⟩
  · simp [presentFeeder, presentable, feeder, setOutput]
  · simp [presentFeeder, presentable, feeder, there, setOutput]
  · rw [out y feeder gone, reResolveOutput_frame, entry]
    exact reResolve_eq e _
  · rw [out y feeder gone, reResolveOutput_frame] at output
    rw [out y feeder gone, reResolveOutput_some output, show (some g != d.resolved) = true by simpa using other]
    exact (getLsbD_raise .loom .feederSubstituted 12 _).trans (by simp [eventBit, eventNumber])
  · rw [out y feeder gone, reResolveOutput_frame] at output
    rw [out y feeder gone, reResolveOutput_none output]
    exact reportFault_isSome _ _ _

/-- The crossing of the weft select mark (R95). -/
theorem weftSelect_eq :
    (x.pick.engine ≠ .weaving → (weftSelect x).frame.output = none) ∧
      (x.pick.engine = .weaving → x.pick.reforming = true → weftSelect x = x) ∧
      (x.pick.engine = .weaving → x.pick.reforming = false →
        (x.frame.pickFeeder = .noFrame → (weftSelect x).frame.output = none) ∧
        (∀ f d, x.frame.pickFeeder = .frame f → x.frame.latchedDesc = some d → weftSelect x = presentFeeder f d x)) := by
  refine ⟨fun other => by simp [weftSelect, other, setOutput], fun weaving reforming => by simp [weftSelect, weaving, reforming],
    fun weaving settled => ⟨fun none_ => by simp [weftSelect, weaving, settled, none_, setOutput],
      fun f d feeder latched => by simp [weftSelect, weaving, settled, feeder, latched]⟩⟩

end Output

/-! ## The start of the forward frame -/

section Start

variable {s x y z : State} {p q : Position} {swap : Bool}

/-- What the resolution of a frame reports rests on the fault record, the flags and the position alone (R91). -/
theorem raiseResolution_reports (r : Option (Fin 8) × Bool) (reforming : Bool) (slot : Slot) :
    let t := raiseResolution r { y with pick.reforming := reforming, frame.slot := slot }
    t.pick.fault = (raiseResolution r y).pick.fault ∧ t.loom.flags = (raiseResolution r y).loom.flags ∧
      t.design.flags = (raiseResolution r y).design.flags := by
  obtain ⟨f, substituted⟩ := r
  cases f with
  | none =>
    cases held : y.pick.fault with
    | none => simp [raiseResolution, reportFault, held, enterFirstFault]
    | some r => simp [raiseResolution, reportFault, held, countLaterFault]
  | some f => cases substituted <;> exact ⟨rfl, rfl, rfl⟩

/-- A LEVEL-marked frame is computed without a test of the float guard (R69, R75). -/
theorem bindCount_level (t : HarnessTable) (a : Article) (cells : List Byte) (d : Descriptor) (v : GuardView)
    (level : d.level = true) : bindCount t a cells d v = 0 ∧ violates t a cells d v = false := by
  simp [bindCount, violates, foundAtLimit, guardTests, level]

/-- The frame an assembly start leaves in the slot (R69, R109). -/
theorem beginFrame_describes (kind : FrameKind) (p : Position) (swap : Bool) (n : Nat) :
    (beginFrame kind p swap n y).frame.slot.desc = some (y.describe kind p swap n) := by
  unfold beginFrame
  dsimp only
  split
  next level =>
    simp only [computeFrame, Slot.desc, (bindCount_level _ _ _ _ _ level).1, (bindCount_level _ _ _ _ _ level).2]
    rfl
  · simp [Slot.desc]

/-- What an assembly start reports (R91). -/
theorem beginFrame_reports (kind : FrameKind) (p : Position) (swap : Bool) (n : Nat) :
    let d := y.describe kind p swap n
    (beginFrame kind p swap n y).pick.fault = (raiseResolution (d.resolved, d.substituted) y).pick.fault ∧
      (beginFrame kind p swap n y).loom.flags = (raiseResolution (d.resolved, d.substituted) y).loom.flags ∧
      (beginFrame kind p swap n y).design.flags = (raiseResolution (d.resolved, d.substituted) y).design.flags := by
  intro d
  obtain ⟨fault, loom, design⟩ := raiseResolution_reports (y := y) (d.resolved, d.substituted)
    (y.pick.reforming || kind != .forward)
    (.assembling d { settings := y.frame.guard, committed := y.frame.committed } (.reading []))
  unfold beginFrame
  dsimp only
  split
  · exact ⟨fault, loom, design⟩
  · simpa using ⟨fault, loom, design⟩

/-- What becomes READY at once keeps the descriptor in the slot and reports nothing (R111, R112). -/
theorem completeForward_reports :
    (completeForward y).frame.slot.desc = y.frame.slot.desc ∧ (completeForward y).pick = y.pick ∧
      (completeForward y).loom = y.loom ∧ (completeForward y).design = y.design ∧
      (completeForward y).store = y.store := by
  refine ⟨?_, by simp, by simp, by simp, by simp⟩
  unfold completeForward
  split
  next d v slot => split <;> simp [Slot.desc, slot]
  · rfl

/-- The descriptor of a forward frame (R104, R109). -/
def forwardDescriptor (q : Position) (swap : Bool) (y : State) : Descriptor :=
  y.describe .forward q swap (min (y.pick.counter + 1) maxCount)

/-- The start of a forward frame: its descriptor, and what its resolution reports (R91, R104). -/
theorem beginForward_reports :
    let d := forwardDescriptor q swap y
    (beginForward q swap y).frame.slot.desc = some d ∧
      (beginForward q swap y).pick.fault = (raiseResolution (d.resolved, d.substituted) y).pick.fault ∧
      (beginForward q swap y).loom.flags = (raiseResolution (d.resolved, d.substituted) y).loom.flags ∧
      (beginForward q swap y).design.flags = (raiseResolution (d.resolved, d.substituted) y).design.flags := by
  intro d
  have begun := beginFrame_reports (y := y) .forward q swap (min (y.pick.counter + 1) maxCount)
  have slot := beginFrame_describes (y := y) .forward q swap (min (y.pick.counter + 1) maxCount)
  unfold beginForward
  dsimp only
  split
  · obtain ⟨desc, pick, loom, design, -⟩ := completeForward_reports
      (y := beginFrame .forward q swap (min (y.pick.counter + 1) maxCount) y)
    rw [desc, pick, loom, design]
    exact ⟨slot, begun⟩
  · exact ⟨slot, begun⟩

/-- A free port that no request waits for takes the request of a forward frame that starts (R110, R163). -/
theorem beginForward_port (free : y.store.port = none) (idle : y.due = none) :
    (beginForward q swap y).store.port = (beginForward q swap y).due := by
  have begun : (beginFrame .forward q swap (min (y.pick.counter + 1) maxCount) y).store.port =
      (beginFrame .forward q swap (min (y.pick.counter + 1) maxCount) y).due := by
    unfold beginFrame
    dsimp only
    split
    · refine (show _ = none by simpa using free).trans (due_eq_none_iff.mpr fun r => ?_).symm
      rw [due_eq_none_iff] at idle
      cases r with
      | frame => rfl
      | queue => simpa [State.waiting] using idle .queue
      | readback => simpa [State.waiting] using idle .readback
    · exact grant_of_free _ (by simpa using free)
  have completed (x : State) (h : x.store.port = x.due) : (completeForward x).store.port = (completeForward x).due := by
    have waits (r : Requester) : (completeForward x).waiting r = x.waiting r := by
      cases r with
      | frame =>
        unfold completeForward
        split
        next d v slot => split <;> simp [State.waiting, slot]
        · rfl
      | queue => simp [State.waiting]
      | readback => simp [State.waiting]
    rw [completeForward_reports.2.2.2.2, h]
    simp only [State.due, waits]
  unfold beginForward
  dsimp only
  split
  · exact completed _ begun
  · exact begun

/-- The pick and the swap mark of the forward frame that starts from a pick, and the state it starts in, where a refused
swap has made the other bank READY (R35–R37, R104). -/
def StartsFrom (s : State) (p q : Position) (swap : Bool) (y : State) : Prop :=
  (p.step + 1 < (s.article p.bank).len p.line → q = { p with step := p.step + 1 } ∧ swap = false) ∧
    ((s.article p.bank).len p.line ≤ p.step + 1 → p.line + 1 < (s.article p.bank).height →
      q = { p with line := p.line + 1, step := 0 } ∧ swap = false) ∧
    ((s.article p.bank).len p.line ≤ p.step + 1 → (s.article p.bank).height ≤ p.line + 1 →
      ((s.bank (otherBank p.bank)).state ≠ .armed →
        q = { bank := p.bank, line := 0, step := 0, rep := min (p.rep + 1) 65535 } ∧ swap = false) ∧
      ((s.bank (otherBank p.bank)).state = .armed → s.fits (otherBank p.bank) = true →
        q = { bank := otherBank p.bank, line := 0, step := 0, rep := 0 } ∧ swap = true) ∧
      ((s.bank (otherBank p.bank)).state = .armed → s.fits (otherBank p.bank) = false →
        q = { bank := p.bank, line := 0, step := 0, rep := min (p.rep + 1) 65535 } ∧ swap = false ∧
          y = refuseSwap (otherBank p.bank) s)) ∧
    (y = s ∨ y = refuseSwap (otherBank p.bank) s)

/-- In WEAVING with the slot EMPTY the forward frame of the next pick starts (R104). -/
theorem exists_startForward (weaving : s.pick.engine = .weaving) (empty : s.frame.slot = .empty)
    (at_ : s.pick.position = some p) :
    ∃ q swap y, startForward s = beginForward q swap y ∧ StartsFrom s p q swap y := by
  unfold startForward
  rw [if_pos ⟨weaving, by simp [empty, Slot.isEmpty]⟩]
  simp only [at_]
  by_cases within : p.step + 1 < (s.article p.bank).len p.line
  · rw [nextPick_within within]
    exact ⟨_, _, _, rfl, fun _ => ⟨rfl, rfl⟩, fun last => absurd last (by omega), fun last => absurd last (by omega), .inl rfl⟩
  · by_cases line : p.line + 1 < (s.article p.bank).height
    · rw [nextPick_nextLine (by omega) line]
      exact ⟨_, _, _, rfl, fun h => absurd h within, fun _ _ => ⟨rfl, rfl⟩, fun _ wrap => absurd wrap (by omega), .inl rfl⟩
    · rw [nextPick_wrap (by omega) (by omega)]
      dsimp only
      by_cases armed : (s.bank (otherBank p.bank)).state = .armed
      · cases fits : s.fits (otherBank p.bank) with
        | true =>
          have outcome : s.wrapOutcome p.bank = .swap := by simp [State.wrapOutcome, armed, fits]
          rw [outcome]
          exact ⟨_, _, _, rfl, fun h => absurd h within, fun _ h => absurd h line,
            fun _ _ => ⟨fun free => absurd armed free, fun _ _ => ⟨rfl, rfl⟩, fun _ wide => by simp [fits] at wide⟩, .inl rfl⟩
        | false =>
          have outcome : s.wrapOutcome p.bank = .refused := by simp [State.wrapOutcome, armed, fits]
          rw [outcome]
          exact ⟨_, _, _, rfl, fun h => absurd h within, fun _ h => absurd h line,
            fun _ _ => ⟨fun free => absurd armed free, fun _ fit => by simp [fits] at fit, fun _ _ => ⟨rfl, rfl, rfl⟩⟩,
            .inr rfl⟩
      · have outcome : s.wrapOutcome p.bank = .plain := by simp [State.wrapOutcome, armed]
        rw [outcome]
        exact ⟨_, _, _, rfl, fun h => absurd h within, fun _ h => absurd h line,
          fun _ _ => ⟨fun _ => ⟨rfl, rfl⟩, fun h => absurd h armed, fun h => absurd h armed⟩, .inl rfl⟩

/-- A refused swap leaves the articles (R37). -/
theorem article_refuseSwap (b k : BankId) : (refuseSwap b s).article k = s.article k := by cases b <;> cases k <;> rfl

/-- What a refused swap may have changed before a forward frame starts is the state of a bank (R37). -/
theorem StartsFrom.keeps (h : StartsFrom s p q swap y) :
    y.shaft = s.shaft ∧ y.pick = s.pick ∧ y.frame = s.frame ∧ y.store.port = s.store.port ∧ y.due = s.due ∧
      (∀ k, y.article k = s.article k) ∧ y.loom.flags.getLsbD 12 = s.loom.flags.getLsbD 12 := by
  rcases h.2.2.2 with rfl | rfl
  · exact ⟨rfl, rfl, rfl, rfl, rfl, fun _ => rfl, rfl⟩
  · refine ⟨by simp, by simp, by simp, by simp, due_congr (by simp) (by simp) (by simp), article_refuseSwap _,
      by simp [refuseSwap, eventBit, eventNumber]⟩

/-- Without a feeder there is no substitution (R89–R91). -/
theorem resolveFeeder_substituted {e : Option FeederEntry} {turn : Alternation} {av : Vector Bool 8}
    (out : (resolveFeeder e turn av).1 = none) : (resolveFeeder e turn av).2 = false := by
  cases e with
  | none => rfl
  | some e =>
    obtain ⟨first, other, made⟩ := exists_resolveFeeder_eq_tryFeeders e turn av
    rw [made] at out ⊢
    unfold tryFeeders at out ⊢
    split
    · rfl
    · cases other with
      | none => rfl
      | some second => cases free : av[second] <;> simp_all

/-- The frame that starts at a frame start mark takes its weft and its feeder (R87, R88, R104). -/
theorem feeds_forwardDescriptor (h : StartsFrom s p q swap y) : s.Feeds (forwardDescriptor q swap y) := by
  obtain ⟨-, -, frame, -, -, article, -⟩ := h.keeps
  have fed : y.Feeds (forwardDescriptor q swap y) := feeds_describe y .forward q swap (min (y.pick.counter + 1) maxCount)
  simpa only [State.Feeds, article, frame] using fed

/-- What the marks after the frame start mark leave of a frame that starts (R11, R95, R99). -/
theorem crossMarks_started (start : z.shaft.crosses z.shaft.timing.frameStart = true) :
    (crossMarks z).frame.slot = (startForward z).frame.slot ∧ (crossMarks z).store = (startForward z).store ∧
      Later (startForward z) (crossMarks z) ∧
      (z.shaft.crosses z.shaft.timing.weftSelect = false → (crossMarks z).pick = (startForward z).pick ∧
        (crossMarks z).loom = (startForward z).loom ∧ (crossMarks z).design = (startForward z).design) := by
  obtain ⟨on, off, made⟩ := crossMarks_start start
  rw [made]
  refine ⟨?_, ?_, .trans ?_ (later_gateMarks _ on off), fun away => by simp [away]⟩
  · split <;> simp
  · split <;> simp
  · split
    · exact later_weftSelect _
    · exact .refl _

/-- With no feeder the start of a forward frame reports WEFT UNAVAILABLE (R91). -/
theorem beginForward_unavailable (out : (forwardDescriptor q swap y).resolved = none) :
    (beginForward q swap y).pick.fault = (reportFault .weftUnavailable .none y).pick.fault ∧
      (beginForward q swap y).loom.flags = (reportFault .weftUnavailable .none y).loom.flags ∧
      (beginForward q swap y).design.flags = (reportFault .weftUnavailable .none y).design.flags := by
  obtain ⟨-, fault, loom, design⟩ := beginForward_reports (q := q) (swap := swap) (y := y)
  rw [fault, loom, design, out]
  exact ⟨rfl, rfl, rfl⟩

/-- With a feeder the start of a forward frame raises FEEDER SUBSTITUTED for a substitution and reports no fault (R91). -/
theorem beginForward_resolves :
    ((forwardDescriptor q swap y).resolved ≠ none → (beginForward q swap y).pick.fault = y.pick.fault) ∧
      (beginForward q swap y).loom.flags.getLsbD 12 =
        (y.loom.flags.getLsbD 12 || (forwardDescriptor q swap y).substituted) := by
  obtain ⟨-, fault, loom, -⟩ := beginForward_reports (q := q) (swap := swap) (y := y)
  rw [fault, loom]
  cases found : (forwardDescriptor q swap y).resolved with
  | none =>
    have single : (forwardDescriptor q swap y).substituted = false := resolveFeeder_substituted found
    refine ⟨fun some_ => absurd rfl some_, ?_⟩
    cases held : y.pick.fault <;>
      simp [raiseResolution, reportFault, held, enterFirstFault, countLaterFault, single, eventBit, eventNumber]
  | some f =>
    exact ⟨fun _ => by simp [raiseResolution],
      (getLsbD_raiseIf _ .loom .feederSubstituted 12 y).trans (by simp [eventBit, eventNumber, State.link])⟩

end Start

/-! ## The obligation -/

/-- The crossing of the frame start mark (R104). -/
theorem frameStart_crossed {s : State} (awake : s.inReset = false) (ref : s.shaft.reference = .referenced)
    (crossed : s.shaft.offset + 1 = (s.shaft.timing.frameStart : Int)) (low : s.shaft.timing.frameStart ≤ 1023) :
    exec (.encoderCount .forward) s = .next (crossMarks (counted s)) ∧
      (counted s).shaft.crosses (counted s).shaft.timing.frameStart = true ∧
      (s.shaft.timing.weftSelect ≠ s.shaft.timing.frameStart →
        (counted s).shaft.crosses (counted s).shaft.timing.weftSelect = false) := by
  refine ⟨exec_counted awake ref (by omega), by simp [Shaft.crosses, crossed], fun away => ?_⟩
  simpa [Shaft.crosses, crossed] using fun same => away (by omega)

/-- Settles O15: the start of the forward frame by its pick; the feeder output and the gate by the order of the marks. -/
theorem frameStartCrossingStartsForwardFrame : Obligations.FrameStartCrossingStartsForwardFrame := by
  unfold Obligations.FrameStartCrossingStartsForwardFrame
  refine ⟨?_, fun s awake ref crossed => ?_, fun s awake ref => ?_⟩
  · rintro s p _ awake ref crossed low at_ rfl
    obtain ⟨run, start, apart⟩ := frameStart_crossed awake ref crossed low
    refine ⟨_, run, ?_⟩
    obtain ⟨z, count⟩ : ∃ z, z = counted s := ⟨_, rfl⟩
    rw [← count] at start apart ⊢
    obtain ⟨slot, store, later, alone⟩ := crossMarks_started start
    refine ⟨by simp [count, at_], by simp [count], by simp [count], by simp [count], fun busy => ?_, fun empty weaving => ?_⟩
    · have same : startForward z = z := by
        refine if_neg fun ⟨weaving, empty⟩ => ?_
        rcases busy with full | other
        · cases held : s.frame.slot <;> simp_all [Slot.isEmpty]
        · exact other (by simpa [count] using weaving)
      rw [slot, same, count]
      simp
    · obtain ⟨q, swap, y, made, from_⟩ := exists_startForward (s := z) (p := p) (by simpa [count] using weaving)
        (by simpa [count] using empty) (by simpa [count] using at_)
      obtain ⟨shaft, pick, frame, port, due, -, substituted⟩ := from_.keeps
      have fed := feeds_forwardDescriptor from_
      have desc := (beginForward_reports (q := q) (swap := swap) (y := y)).1
      obtain ⟨resolves, twelve⟩ := beginForward_resolves (q := q) (swap := swap) (y := y)
      rw [made] at slot store later alone
      have article (k : BankId) : z.article k = s.article k := by simp [count, State.article, State.bank]
      have banks (k : BankId) : z.bank k = s.bank k := by simp [count, State.bank]
      have fits (k : BankId) : z.fits k = s.fits k := by
        rw [State.fits, article, show z.harness.live = s.harness.live by simp [count]]
        rfl
      obtain ⟨within, nextLine, wraps, -⟩ := from_
      rw [article] at within nextLine wraps
      rw [banks, fits] at wraps
      have ypick : y.pick = s.pick := by simp [pick, count]
      refine ⟨forwardDescriptor q swap y, by rw [slot, desc], rfl, ?_, ?_, rfl, rfl, ?_, fun law free => ?_,
        fun out empty => ?_, fun r out held => ?_, fun differ => ?_, within, nextLine, fun last wrap => ?_⟩
      · simp [forwardDescriptor, State.describe, frame, count]
      · simp [forwardDescriptor, State.describe, ypick, maxCount]
      · have same : z.frame.alternation = s.frame.alternation ∧ z.frame.available = s.frame.available := by simp [count]
        simpa only [State.Feeds, article, same] using fed
      · have idle : s.due = none := law.1 free
        have same : z.due = s.due := due_congr (by simp [count]) (by simp [count]) (by simp [count])
        rw [store, beginForward_port (by simp [port, count, free]) (by rw [due, same, idle])]
        exact (due_congr slot (by rw [store]) (by rw [store])).symm
      · obtain ⟨first, loom, design, -⟩ := reportFault_first .weftUnavailable .none (s := y) (by rw [ypick]; exact empty)
        obtain ⟨fault, floom, fdesign⟩ := beginForward_unavailable out
        obtain ⟨r, held, same⟩ := later.fault _ (fault.trans first)
        exact ⟨r, held, same.kind, same.counter.trans (by rw [ypick]), same.position.trans (by rw [ypick]; exact at_),
          same.angle.trans (by simp [shaft, count]), later.flags .loom 0 ((congrArg (·.getLsbD 0) floom).trans loom),
          later.flags .design 0 ((congrArg (·.getLsbD 0) fdesign).trans design)⟩
      · have further := reportFault_later .weftUnavailable .none (s := y) (r := r) (by rw [ypick]; exact held)
        obtain ⟨r', held', same⟩ := later.fault _ ((beginForward_unavailable out).1.trans further)
        exact ⟨r', held', same.kind, same.weftUnavailable rfl⟩
      · obtain ⟨tpick, tloom, -⟩ := alone (apart differ)
        rw [tpick, tloom, twelve, substituted]
        exact ⟨fun found => (resolves found).trans (by rw [ypick]), by simp [count]⟩
      · obtain ⟨free, swaps, refuses⟩ := wraps last wrap
        refine ⟨free, swaps, fun armed wide => ?_⟩
        obtain ⟨onto, plain, made⟩ := refuses armed wide
        obtain ⟨ready, loom, design⟩ := refuseSwap_refused (otherBank p.bank) z
        rw [← made] at ready loom design
        have begun : Later y (crossMarks z) := (later_beginForward y q swap).trans later
        refine ⟨onto, plain, ?_, begun.flags .loom 4 loom, begun.flags .design 3 design⟩
        rw [show (crossMarks z).bank (otherBank p.bank) = y.bank (otherBank p.bank) from
          bank_congr (by simp [store]) (by simp [store]) _]
        exact ready
  · obtain ⟨z, run, offset, timing, engine, available, output, -⟩ := exec_marks awake ref
    have select : z.shaft.crosses z.shaft.timing.weftSelect = true := by
      obtain ⟨low, below | ⟨latch, zero⟩⟩ := crossed
      · rw [Shaft.crosses, timing, offset, if_neg (by omega), below]
        simp
      · simp [Shaft.crosses, timing, offset, latch, zero]
    obtain ⟨x, on, off, marked, xengine, xavailable, xoutput⟩ := crossMarks_select select
    obtain ⟨outside, reforming, presents⟩ := weftSelect_eq (x := x)
    rw [xengine, engine] at outside reforming presents
    refine ⟨_, run, ?_⟩
    rw [marked]
    have flags := (later_gateMarks (weftSelect x) on off)
    refine ⟨fun other => by simp [outside other], fun weaving re => ?_, fun weaving settled => ?_⟩
    · have same := reforming weaving (by simpa using re)
      simp [same, xoutput, output]
    · obtain ⟨noFrame, frame⟩ := presents weaving (by simpa using settled)
      refine ⟨fun none_ => by simpa using noFrame (by simpa using none_), fun f d feeder latched => ?_⟩
      have same := frame f d (by simpa using feeder) (by simpa using latched)
      obtain ⟨shown, substitutes, unavailable⟩ := presentFeeder_presents (x := x) (f := f) (d := d)
      rw [xavailable, available] at shown substitutes unavailable
      rw [← same] at shown substitutes unavailable
      exact ⟨by simpa using shown, fun y g held gone out other =>
          flags.flags .loom 12 (substitutes y g held gone (by simpa using out) other),
        fun y held gone out => flags.isSome (unavailable y held gone (by simpa using out))⟩
  · obtain ⟨z, run, offset, timing, engine, -, -, gate⟩ := exec_marks awake ref
    have marks (m : Nat) : s.Crosses m → z.shaft.crosses m = true := by
      rintro ⟨low, crossed⟩
      rw [Shaft.crosses, beq_iff_eq, offset]
      split <;> omega
    have clear (m : Nat) (low : m ≤ 1023) (away : ¬ s.Crosses m) : z.shaft.crosses m = false := by
      rw [Shaft.crosses, beq_eq_false_iff_ne, offset]
      intro same
      refine away ⟨low, ?_⟩
      split at same <;> omega
    refine ⟨_, run, ?_⟩
    rw [crossMarks_gate, timing, engine, gate]
    refine ⟨fun off => by rw [marks _ off]; rfl, fun on apart => ?_, fun notOn notOff onLow offLow => ?_⟩
    · have notOff : z.shaft.crosses s.shaft.timing.gateOff = false := by
        by_cases low : s.shaft.timing.gateOff ≤ 1023
        · exact clear _ low apart
        · have here := marks _ on
          obtain ⟨onLow, -⟩ := on
          rw [Shaft.crosses, beq_iff_eq] at here
          rw [Shaft.crosses, beq_eq_false_iff_ne]
          omega
      rw [notOff, marks _ on]
      cases s.frame.gate <;> cases s.pick.engine <;> rfl
    · rw [clear _ onLow notOn, clear _ offLow notOff]
      rfl

end Sys2Proof.Proofs
end

section
/-! PROOF. The completions of a forward frame and of a re-form (R112, R115). -/

namespace Sys2Proof.Proofs

open Sys2Proof.Machine

section Completion

variable {s x : State} {d : Descriptor} {v : GuardView} {c : Cause} {p : Position}

/-- A slot whose frame is a forward one holds no re-form (R102). -/
theorem isReform_of_forward {slot : Slot} (held : slot.desc = some d) (forward : d.kind = .forward) :
    slot.isReform = false := by
  cases slot with
  | empty => rfl
  | assembling d' v st => obtain rfl : d' = d := Option.some.inj held; simp [Slot.isReform, forward]
  | ready d' => rfl

/-- The start of a forward frame leaves the re-forming flag (R23). -/
theorem startForward_reforming : (startForward x).pick.reforming = x.pick.reforming := by
  have begun (q : Position) (swap : Bool) (y : State) :
      (beginForward q swap y).pick.reforming = y.pick.reforming := by
    have flag := beginFrame_flag (s := y) .forward q swap (min (y.pick.counter + 1) maxCount)
    unfold beginForward
    dsimp only
    split
    · rw [completeForward_reports.2.1, flag]
      simp
    · rw [flag]
      simp
  unfold startForward
  split
  · split
    · rfl
    · split
      · exact begun _ _ _
      · split <;> simp [begun]
  · rfl

/-- From an EMPTY slot the start of a forward frame leaves no re-form in it (R104). -/
theorem startForward_isReform (empty : x.frame.slot = .empty) : (startForward x).frame.slot.isReform = false := by
  by_cases weaving : x.pick.engine = .weaving
  · cases at_ : x.pick.position with
    | none => simp [startForward, at_, empty, Slot.isReform]
    | some p =>
      obtain ⟨q, swap, y, made, -⟩ := exists_startForward weaving empty at_
      rw [made]
      exact isReform_of_forward beginForward_reports.1 rfl
  · simp [startForward, weaving, empty, Slot.isReform]

/-- The shed that the latch of a re-form takes, before its feeder is presented (R115). -/
def reformTaken (d : Descriptor) (s : State) : State :=
  { s with
    frame := { s.frame with
      latched := s.frame.staged, staged := .empty, latchedDesc := some d, pickFeeder := .frame d.resolved,
      slot := .empty, committed := [] }
    pick := { s.pick with reforming := false } }

theorem takeReform_eq : takeReform d c s =
    restartStandstill (raise .loom .reformDone
      (addRecord (.reform c) d.resolved d.substituted 0 (presentFeeder d.resolved d (reformTaken d s)))) := rfl

/-- The latch of a re-form in the frame builder and the harness unit (R115, R122). -/
theorem takeReform_taken :
    (takeReform d c s).frame.latched = s.frame.staged ∧ (takeReform d c s).frame.latchedDesc = some d ∧
      (takeReform d c s).frame.pickFeeder = .frame d.resolved ∧ (takeReform d c s).frame.committed = [] ∧
      (takeReform d c s).frame.slot = .empty ∧ (takeReform d c s).pick.reforming = false ∧
      (takeReform d c s).harness.stage = .run ∧ (takeReform d c s).loom.flags.getLsbD 1 = true := by
  rw [takeReform_eq]
  simp [reformTaken, eventBit, eventNumber]

/-- What the latch of a re-form presents stays presented and reported (R96). -/
theorem takeReform_presents :
    (takeReform d c s).frame.output = (presentFeeder d.resolved d (reformTaken d s)).frame.output ∧
      Later (presentFeeder d.resolved d (reformTaken d s)) (takeReform d c s) := by
  rw [takeReform_eq]
  exact ⟨by simp, (later_addRecord _ _ _ _ _).trans ((later_raise _ (by decide) _).trans (later_restartStandstill _))⟩

/-- The record of a re-form (R30, R47). -/
theorem takeReform_record (at_ : s.pick.position = some p) :
    ∃ r : HistoryRecord, (takeReform d c s).pick.history = (r :: s.pick.history).take 16 ∧
      r.kind = .reform c ∧ r.counter = s.pick.counter ∧ r.position = p ∧ r.feeder = d.resolved ∧
      r.substituted = d.substituted ∧ r.bindCount = 0 ∧ r.swapFlag = s.pick.exchangeNote := by
  obtain ⟨-, r, history, kind, counter, position, feeder, substituted, bound, flag⟩ :=
    addRecord_at (y := presentFeeder d.resolved d (reformTaken d s)) (kind := .reform c) (f := d.resolved)
      (sub := d.substituted) (n := 0) (q := p) (by simpa [reformTaken] using at_)
  have before : (presentFeeder d.resolved d (reformTaken d s)).pick.history = s.pick.history := by simp [reformTaken]
  refine ⟨r, ?_, kind, counter.trans (by simp [reformTaken]), position, feeder, substituted, bound,
    flag.trans (by simp [reformTaken])⟩
  rw [takeReform_eq, ← before, ← history]
  simp

/-- The re-form whose lifts are shifted is latched, and the next forward frame starts (R105, R115). -/
theorem completeReform_eq (held : s.frame.slot = .assembling d v .shifting) (reform : d.kind = .reform c) :
    completeReform s = startForward (takeReform d c s) := by
  unfold completeReform
  rw [held]
  simp only [reform]

end Completion

/-- Settles O16: both completions look at the slot alone; the latch of a re-form by its parts. -/
theorem frameCompletions : Obligations.FrameCompletions := by
  unfold Obligations.FrameCompletions
  intro s
  have forwardArm : exec .forwardFrameComplete s = .next (completeForward s) := rfl
  have reformArm : exec .reformCompletion s = .next (completeReform s) := rfl
  rw [forwardArm, reformArm]
  refine ⟨fun d v held forward => ?_, fun other => ?_, fun d v c held reform => ⟨?_, _, rfl, ?_⟩,
    fun d v held forward => ?_⟩
  · simp [completeForward, held, forward]
  · unfold completeForward completeReform
    constructor
    · split
      next d v held => exact absurd held (other d v)
      · rfl
    · split
      next d v held => exact absurd held (other d v)
      · rfl
  · simp [completeForward, held, reform]
  · rw [completeReform_eq held reform]
    obtain ⟨latched, desc, feeder, committed, empty, reforming, stage, done⟩ := takeReform_taken (s := s) (d := d) (c := c)
    obtain ⟨output, later⟩ := takeReform_presents (s := s) (d := d) (c := c)
    obtain ⟨shown, substitutes, unavailable⟩ := presentFeeder_presents (x := reformTaken d s) (f := d.resolved) (d := d)
    rw [← output, show (reformTaken d s).frame.available = s.frame.available from rfl] at shown substitutes unavailable
    have begun := later_startForward (takeReform d c s)
    refine ⟨by simp [latched], by simp [desc], by simp [feeder], by simp [committed], by simp,
      begun.flags .loom 1 done, by simp [stage], by rw [startForward_reforming, reforming], by simp, by simp,
      startForward_isReform empty, by simpa using shown, fun y g resolved gone out other => ?_,
      fun y resolved gone out => ?_, fun p at_ => by simpa using takeReform_record (d := d) (c := c) at_, fun p at_ weaving => ?_⟩
    · exact (later.trans begun).flags .loom 12
        (substitutes y g resolved gone (by simpa using out) (by rw [resolved]; exact fun same => other (Option.some.inj same)))
    · exact (later.trans begun).isSome (unavailable y resolved gone (by simpa using out))
    · obtain ⟨q, swap, y, started, from_⟩ := exists_startForward (s := takeReform d c s) (p := p) (by simpa using weaving)
        empty (by simpa using at_)
      have fed := feeds_forwardDescriptor from_
      have article (k : BankId) : (takeReform d c s).article k = s.article k := by simp [State.article]
      refine ⟨forwardDescriptor q swap y, by rw [started]; exact beginForward_reports.1, rfl, ?_⟩
      have same : (takeReform d c s).frame.alternation = s.frame.alternation ∧
          (takeReform d c s).frame.available = s.frame.available := by simp
      simpa only [State.Feeds, article, same] using fed
  · simp [completeReform, held, forward]

end Sys2Proof.Proofs
end

section
/-! PROOF. Completed reading bursts (R110, R111, R163, R164). -/

namespace Sys2Proof.Proofs

open Sys2Proof.Machine

/-! ## The freed port -/

section Port

variable {s x y : State} {q : Position} {swap : Bool}

/-- The port is free, or holds the burst that is due (R163). -/
def PortGranted (x : State) : Prop := x.store.port = none ∨ x.store.port = x.due

/-- After a grant the port holds the burst that is due (R163). -/
theorem PortGranted.grant (h : PortGranted x) : (Machine.grant x).store.port = (Machine.grant x).due := by
  cases used : x.store.port with
  | none => exact grant_of_free x used
  | some b =>
    rw [grant_of_used x used, due_congr (s := x) (by simp) (by simp) (by simp), ← used]
    exact h.resolve_left (by simp [used])

/-- An assembly start that finds the port free leaves it free or grants it (R109, R163). -/
theorem granted_beginFrame (kind : FrameKind) (n : Nat) (free : y.store.port = none) :
    PortGranted (beginFrame kind q swap n y) := by
  unfold beginFrame
  dsimp only
  split
  · exact .inl (by simpa using free)
  · exact .inr (grant_of_free _ (by simpa using free))

/-- A frame that becomes READY asks for nothing before and after (R112). -/
theorem granted_completeForward (h : PortGranted x) : PortGranted (completeForward x) := by
  have waits (r : Requester) : (completeForward x).waiting r = x.waiting r := by
    cases r with
    | frame =>
      unfold completeForward
      split
      next d v slot => split <;> simp [State.waiting, slot]
      · rfl
    | queue => simp [State.waiting]
    | readback => simp [State.waiting]
  have due : (completeForward x).due = x.due := by simp only [State.due, waits]
  rwa [PortGranted, completeForward_reports.2.2.2.2, due]

/-- A forward frame that starts with the port free leaves it free or grants it (R104, R163). -/
theorem granted_beginForward (free : y.store.port = none) : PortGranted (beginForward q swap y) := by
  have begun := granted_beginFrame (q := q) (swap := swap) .forward (min (y.pick.counter + 1) maxCount) free
  unfold beginForward
  dsimp only
  split
  · exact granted_completeForward begun
  · exact begun

theorem granted_startForward (free : x.store.port = none) : PortGranted (startForward x) := by
  unfold startForward
  split
  · split
    · exact .inl free
    · split
      · exact granted_beginForward free
      · split <;> exact granted_beginForward (by simpa using free)
  · exact .inl free

theorem granted_completeReform (free : x.store.port = none) : PortGranted (completeReform x) := by
  unfold completeReform
  split
  · split
    · exact granted_startForward (by simpa using free)
    · exact .inl free
  · exact .inl free

end Port

/-! ## The frame builder's bursts -/

section Frame

variable {s x : State} {b : Burst} {d : Descriptor} {v : GuardView} {old data : List Byte}

/-- The descriptor after the computation of a frame (R111). -/
def computed (d : Descriptor) (v : GuardView) (cells : List Byte) (x : State) : Descriptor :=
  { d with
    bindCount := bindCount x.harness.live (x.article d.position.bank) cells d v
    violation := violates x.harness.live (x.article d.position.bank) cells d v }

theorem computeFrame_slot (cells : List Byte) :
    (computeFrame d v cells x).frame.slot = .assembling (computed d v cells x) v .shifting := rfl

/-- The data of a burst before the last one joins those read (R110). -/
theorem takeFrameData_more (held : x.frame.slot = .assembling d v (.reading old))
    (more : (old ++ data).length / 64 < lineBursts (x.article d.position.bank).width) :
    takeFrameData data x = { x with frame.slot := .assembling d v (.reading (old ++ data)) } := by
  unfold takeFrameData
  rw [held]
  exact if_pos more

/-- The data of the last burst goes into the computation (R110, R111). -/
theorem takeFrameData_last (held : x.frame.slot = .assembling d v (.reading old))
    (last : ¬ (old ++ data).length / 64 < lineBursts (x.article d.position.bank).width) :
    takeFrameData data x =
      if x.noHooks then completeReform (completeForward (computeFrame d v (old ++ data) x))
      else computeFrame d v (old ++ data) x := by
  unfold takeFrameData
  rw [held]
  exact if_neg last

/-- A forward frame of no hooks becomes READY in the step of its last burst (R111, log 25). -/
theorem completes_forward (cells : List Byte) (forward : d.kind = .forward) :
    completeReform (completeForward (computeFrame d v cells x)) =
      { computeFrame d v cells x with
        frame.slot := .ready (computed d v cells x)
        shaft.slackCounter := 0 } := by
  have ready : completeForward (computeFrame d v cells x) =
      { computeFrame d v cells x with
        frame.slot := .ready (computed d v cells x)
        shaft.slackCounter := 0 } := by
    unfold completeForward
    rw [computeFrame_slot]
    exact if_pos forward
  rw [ready]
  rfl

/-- A re-form of no hooks is latched in the step of its last burst (R111, log 25). -/
theorem completes_reform (cells : List Byte) {c : Cause} (reform : d.kind = .reform c) :
    completeReform (completeForward (computeFrame d v cells x)) =
      startForward (takeReform (computed d v cells x) c (computeFrame d v cells x)) := by
  have still : completeForward (computeFrame d v cells x) = computeFrame d v cells x := by
    unfold completeForward
    rw [computeFrame_slot]
    exact if_neg (by simp [computed, reform])
  rw [still]
  exact completeReform_eq (computeFrame_slot _) reform

/-- The row of a frame's burst (R110, R163). -/
theorem exec_frameReadBurstDone (used : s.store.port = some b) (own : b.requester = .frame) :
    exec .frameReadBurstDone s = finishRead b finishFrameBurst s := by
  have arm : exec .frameReadBurstDone s = execFrameReadBurstDone s := rfl
  rw [arm, execFrameReadBurstDone]
  simp [State.burstOf, used, own]

/-- The row of a readback's burst (R163, R164). -/
theorem exec_readbackBurstDone (used : s.store.port = some b) (own : b.requester = .readback) :
    exec .readbackBurstDone s = finishRead b finishReadbackBurst s := by
  have arm : exec .readbackBurstDone s = execReadbackBurstDone s := rfl
  rw [arm, execReadbackBurstDone]
  simp [State.burstOf, used, own]

section Read

variable {take : List Byte → State → State}

/-- A reading burst by its three ends: abandoned, over a byte that nothing has written, or with its data (R163, log 11). -/
theorem finishRead_cases :
    (b.dropped = true → finishRead b take s = .next (grant (freePort s))) ∧
      (b.dropped = false → readBytes s.store.memory b.address 64 = none →
        finishRead b take s = .fault .unwrittenPatternMemory) ∧
      (∀ data, b.dropped = false → readBytes s.store.memory b.address 64 = some data →
        finishRead b take s = .next (take data s)) := by
  refine ⟨fun dropped => by simp [finishRead, dropped], fun kept unwritten => ?_, fun data kept written => ?_⟩
  · simp [finishRead, kept, burstBytes, unwritten]
  · simp [finishRead, kept, burstBytes, written]

end Read

end Frame

/-! ## The readback buffer's bursts -/

section Readback

variable {x : State} {job : ReadJob} {old data : List Byte}

/-- The data of a readback burst: the fill goes on, or the buffer is FULL with LINE READY (R164). -/
theorem takeReadbackData_cases (held : x.store.readback = .filling job old) :
    ((old ++ data).length / 64 < lineBursts job.width →
        takeReadbackData data x = { x with store.readback := .filling job (old ++ data) }) ∧
      (¬ (old ++ data).length / 64 < lineBursts job.width →
        takeReadbackData data x = raise .design .lineReady
          { x with store.readback := .full job ((old ++ data).take (lineBytes job.width)) }) := by
  unfold takeReadbackData
  rw [held]
  exact ⟨fun more => if_pos more, fun last => if_neg last⟩

end Readback

/-- Settles O17: a burst by its end, then the data by the requester's stage. -/
theorem readingBurstsDeliverTheirData : Obligations.ReadingBurstsDeliverTheirData := by
  unfold Obligations.ReadingBurstsDeliverTheirData
  intro s b used
  have free : (freePort s).store.port = none := rfl
  refine ⟨fun own dropped => ⟨_, (exec_frameReadBurstDone used own).trans (finishRead_cases.1 dropped), ?_⟩,
    fun own dropped => ⟨_, (exec_readbackBurstDone used own).trans (finishRead_cases.1 dropped), ?_⟩,
    fun kept unwritten => ⟨fun own => (exec_frameReadBurstDone used own).trans (finishRead_cases.2.1 kept unwritten),
      fun own => (exec_readbackBurstDone used own).trans (finishRead_cases.2.1 kept unwritten)⟩,
    ?_, fun data job old own kept held written =>
      ⟨_, (exec_readbackBurstDone used own).trans (finishRead_cases.2.2 data kept written), ?_⟩⟩
  · exact ⟨by simp [freePort], by simp [freePort], by simp [freePort], by simp [freePort], PortGranted.grant (.inl free)⟩
  · exact ⟨by simp [freePort], by simp [freePort], by simp [freePort], by simp [freePort], PortGranted.grant (.inl free)⟩
  · rintro data d v old _ own kept held written rfl
    refine ⟨_, (exec_frameReadBurstDone used own).trans (finishRead_cases.2.2 data kept written), ?_⟩
    have slot : (freePort s).frame.slot = .assembling d v (.reading old) := held
    unfold finishFrameBurst
    by_cases more : (old ++ data).length / 64 < lineBursts (s.article d.position.bank).width
    · rw [takeFrameData_more slot more]
      exact ⟨by simp [freePort], PortGranted.grant (.inl rfl), fun _ => by simp [freePort], fun last => absurd more last⟩
    · rw [takeFrameData_last slot more]
      by_cases none_ : s.harness.live.hooks = 0
      · have noHooks : (freePort s).noHooks = true := by simp [State.noHooks, freePort, none_]
        rw [if_pos noHooks]
        by_cases forward : d.kind = .forward
        · rw [completes_forward _ forward]
          exact ⟨by simp [freePort, computeFrame], PortGranted.grant (.inl rfl), fun h => absurd h more,
            fun _ => ⟨fun h => absurd none_ h, fun _ _ => ⟨by simp; rfl, by simp, by simp [computeFrame, freePort]⟩,
              fun _ h => absurd forward h⟩⟩
        · obtain ⟨c, reform⟩ : ∃ c, d.kind = .reform c := by
            cases kind : d.kind with
            | forward => exact absurd kind forward
            | reform c => exact ⟨c, rfl⟩
          rw [completes_reform _ reform]
          obtain ⟨-, desc, feeder, -, -, reforming, -, done⟩ :=
            takeReform_taken (s := computeFrame d v (old ++ data) (freePort s)) (d := computed d v (old ++ data) (freePort s))
              (c := c)
          have later := (later_startForward (takeReform (computed d v (old ++ data) (freePort s)) c
            (computeFrame d v (old ++ data) (freePort s)))).trans (later_grant _)
          refine ⟨by simp [freePort, computeFrame], (granted_startForward (by simp [computeFrame, freePort])).grant,
            fun h => absurd h more, fun _ => ⟨fun h => absurd none_ h, fun _ h => absurd h forward, fun _ _ =>
              ⟨.trans (by simp) desc, .trans (by simp) feeder, ?_, later.flags .loom 1 done⟩⟩⟩
          rw [(grant_keeps _).2.1, startForward_reforming, reforming]
      · have hooks : ¬ (freePort s).noHooks = true := by simpa [State.noHooks, freePort] using none_
        rw [if_neg hooks]
        exact ⟨by simp [freePort, computeFrame], PortGranted.grant (.inl rfl), fun h => absurd h more,
          fun _ => ⟨fun _ => ⟨by simp; rfl, by simp [computeFrame, freePort]⟩, fun h => absurd h none_, fun h => absurd h none_⟩⟩
  · obtain ⟨more, last⟩ := takeReadbackData_cases (x := freePort s) (data := data) held
    unfold finishReadbackBurst
    by_cases h : (old ++ data).length / 64 < lineBursts job.width
    · rw [more h]
      exact ⟨by simp [freePort], by simp [freePort], by simp [freePort], PortGranted.grant (.inl rfl),
        fun _ => by simp [freePort], fun h' => absurd h h'⟩
    · rw [last h]
      exact ⟨by simp [freePort], by simp [freePort], by simp [freePort], PortGranted.grant (.inl (by simp [freePort])),
        fun h' => absurd h' h, fun _ => by simp [freePort, eventBit, eventNumber]⟩

end Sys2Proof.Proofs
end

section
/-! PROOF. A completed burst of the load queue (R161, R162). -/

namespace Sys2Proof.Proofs

open Sys2Proof.Machine

section Queue

variable {s x : State} {b : Burst} {e : QueueEntry} {rest : List QueueEntry}

/-- The end of an entry's write leaves the port, the memory and every block but the load side and the design link (R161). -/
@[simp] theorem finishEntry_keeps :
    (finishEntry e rest s).shaft = s.shaft ∧ (finishEntry e rest s).pick = s.pick ∧
      (finishEntry e rest s).frame = s.frame ∧ (finishEntry e rest s).harness = s.harness ∧
      (finishEntry e rest s).loom = s.loom ∧ (finishEntry e rest s).store.port = s.store.port ∧
      (finishEntry e rest s).store.memory = s.store.memory := by
  unfold finishEntry
  dsimp only
  split <;> simp [finishClose]

/-- What a completed burst of the oldest entry leaves (R161). -/
@[simp] theorem advanceQueue_keeps :
    (advanceQueue s).shaft = s.shaft ∧ (advanceQueue s).pick = s.pick ∧ (advanceQueue s).frame = s.frame ∧
      (advanceQueue s).harness = s.harness ∧ (advanceQueue s).loom = s.loom ∧
      (advanceQueue s).store.port = s.store.port ∧ (advanceQueue s).store.memory = s.store.memory := by
  unfold advanceQueue
  split
  · simp
  · split <;> simp

/-- The events of the end of an entry's write: QUEUE SPACE where the queue was full, CLOSE DONE where a CLOSING bank has
its queue drained (R150, R161). -/
theorem finishEntry_flags :
    (s.store.queue.length = 4 → (finishEntry e rest s).design.flags.getLsbD 7 = true) ∧
      ((s.bank e.bank).state = .closing → rest = [] → (finishEntry e rest s).design.flags.getLsbD 5 = true) := by
  unfold finishEntry
  dsimp only
  refine ⟨fun full => ?_, fun closing drained => ?_⟩
  · split <;> simp [finishClose, full, eventBit, eventNumber]
  · rw [if_pos ⟨closing, drained⟩]
    simp [finishClose, eventBit, eventNumber]

/-- A line within the table that has been written has the scheme of its entry (R161). -/
theorem schemeNumber_lineWritten {k : Bank} {a : Article} (held : k.record = some a) (line : e.line < a.lines.length) :
    (lineWritten e k).article.schemeNumber e.line = some e.scheme := by
  simp [lineWritten, Bank.article, held, Article.schemeNumber, List.getD_eq_getElem?_getD, line]

/-- The article of the bank after the end of an entry's write, closed or not (R150, R161). -/
theorem finishEntry_article :
    (finishEntry e rest s).article e.bank = (lineWritten e (s.bank e.bank)).article := by
  rw [State.article, (finishEntry_bank e rest s).1]
  split <;> rfl

/-- The close validation at the end of an entry's write (R150). -/
theorem finishEntry_closes (closing : (s.bank e.bank).state = .closing) (drained : rest = []) :
    ((finishEntry e rest s).bank e.bank).closeResult = ((finishEntry e rest s).article e.bank).validate ∧
      ((finishEntry e rest s).bank e.bank).state =
        (if ((finishEntry e rest s).article e.bank).validate = .ok then .ready else .opened) := by
  rw [finishEntry_article, (finishEntry_bank e rest s).1, if_pos ⟨closing, drained⟩]
  exact ⟨rfl, rfl⟩

/-- The row of a load queue's burst (R161). -/
theorem exec_loadQueueBurstDone (used : s.store.port = some b) (own : b.requester = .queue) :
    exec .loadQueueBurstDone s = .next (finishQueueBurst b s) := by
  have arm : exec .loadQueueBurstDone s = execLoadQueueBurstDone s := rfl
  rw [arm, execLoadQueueBurstDone]
  simp [State.burstOf, used, own]

/-- The state in which a completed burst of the load queue finds its entry (R161, R163). -/
def burstWritten (b : Burst) (s : State) : State :=
  freePort { s with store.memory := writeBytes s.store.memory b.address b.data }

theorem finishQueueBurst_eq :
    finishQueueBurst b s = grant (if b.dropped then burstWritten b s else advanceQueue (burstWritten b s)) := rfl

/-- After a burst of the load queue the freed port is granted (R163). -/
theorem finishQueueBurst_port : (finishQueueBurst b s).store.port = (finishQueueBurst b s).due := by
  rw [finishQueueBurst_eq]
  refine PortGranted.grant (.inl ?_)
  split <;> simp [burstWritten, freePort]

end Queue

/-- Settles O18: the bytes by the rules of pattern memory, the entry by its own burst count. -/
theorem queueBurstWritesItsBytes : Obligations.QueueBurstWritesItsBytes := by
  unfold Obligations.QueueBurstWritesItsBytes
  intro s b used own
  have keeps : (finishQueueBurst b s).frame = s.frame ∧ (finishQueueBurst b s).pick = s.pick ∧
      (finishQueueBurst b s).shaft = s.shaft ∧ (finishQueueBurst b s).harness = s.harness ∧
      (finishQueueBurst b s).loom = s.loom := by
    rw [finishQueueBurst_eq]
    split <;> simp [burstWritten, freePort]
  obtain ⟨frame, pick, shaft, harness, loom⟩ := keeps
  refine ⟨_, exec_loadQueueBurstDone used own, finishQueueBurst_port, fun a outside => ?_, fun i within => ?_, frame, pick,
    shaft, harness, loom, fun dropped => ?_, fun kept e rest queue => ⟨fun more => ?_, fun last => ?_⟩⟩
  · rw [finishQueueBurst_memory]
    exact readByte_writeBytes_other _ _ _ _ outside
  · rw [finishQueueBurst_memory]
    exact readByte_writeBytes_same _ _ _ _ within
  · rw [finishQueueBurst_eq, if_pos dropped]
    simp [burstWritten, freePort]
  · have stays : advanceQueue (burstWritten b s) =
        { burstWritten b s with store.queue := { e with written := e.written + 1 } :: rest } := by
      simp [advanceQueue, burstWritten, freePort, queue, more]
    rw [finishQueueBurst_eq, if_neg (by simp [kept]), stays]
    simp [burstWritten, freePort]
  · have ends : advanceQueue (burstWritten b s) = finishEntry e rest (burstWritten b s) := by
      simp [advanceQueue, burstWritten, freePort, queue, last]
    rw [finishQueueBurst_eq, if_neg (by simp [kept]), ends]
    have banks (k : BankId) : (grant (finishEntry e rest (burstWritten b s))).bank k =
        (finishEntry e rest (burstWritten b s)).bank k := bank_congr (by simp) (by simp) k
    have article (k : BankId) : (grant (finishEntry e rest (burstWritten b s))).article k =
        (finishEntry e rest (burstWritten b s)).article k := congrArg Bank.article (banks k)
    have before (k : BankId) : (burstWritten b s).bank k = s.bank k := rfl
    obtain ⟨space, done⟩ := finishEntry_flags (s := burstWritten b s) (e := e) (rest := rest)
    refine ⟨by simpa using (finishEntry_bank e rest _).2.2.1, fun a held line => ?_, fun full => by simpa using space full,
      fun closing drained => ?_⟩
    · rw [article, finishEntry_article, before]
      exact schemeNumber_lineWritten held line
    · rw [article, banks]
      exact ⟨by simpa using done closing drained, finishEntry_closes closing drained⟩

end Sys2Proof.Proofs
end

section
/-! PROOF. Edits of the shadow table (R131–R133). -/

namespace Sys2Proof.Proofs

open Sys2Proof.Machine

/-! ## The three edits on a link that listens -/

section Edits

variable {k : Link} {p : List Byte} {s : State} {t u : HarnessTable} {edit : HarnessTable → Except FieldFailure HarnessTable}
  {reason : Reason} {field : Nat}

/-- A command of both links with as many parameters as it can carry is answered by its own rule (R182). -/
theorem transact_both (code : Byte) (lo hi : Nat) (own : State → State × Reply) (listens : s.listens k = true)
    (low : lo ≤ p.length) (high : p.length ≤ hi) (fits : hi ≤ maxParams) :
    transact k code .both lo hi p own s = answer k code (own s).2 (own s).1 :=
  transact_own listens (high.trans fits) rfl low high

/-- An edit from a link that does not hold the claim (R131–R133). -/
theorem editShadow_notClaimed (lacks : s.shadowOf k = none) : editShadow k edit s = (s, .refused .notClaimed .none) := by
  simp [editShadow, lacks, refuse]

/-- An edit whose field fails (R131–R133, R188). -/
theorem editShadow_error (holds : s.shadowOf k = some t) (fails : edit t = .error (reason, field)) :
    editShadow k edit s = (s, .refused reason (.number field)) := by
  simp [editShadow, holds, fails, refuseField]

/-- An edit that is taken (R131–R133). -/
theorem editShadow_ok (holds : s.shadowOf k = some t) (taken : edit t = .ok u) :
    editShadow k edit s = ({ s with harness.claim := some { owner := k, shadow := u } }, .done []) := by
  simp [editShadow, holds, taken, done, setShadow]

/-- What a command that edits the shadow answers to a field that fails. -/
theorem edit_refused {i : Instr} {code : Byte}
    (run : exec i s = .next (answer k code (editShadow k edit s).2 (editShadow k edit s).1))
    (holds : s.shadowOf k = some t) (fails : edit t = .error (reason, field)) :
    exec i s = .next (answer k code (.refused reason (.number field)) s) := by
  rw [run, editShadow_error holds fails]

/-- What a command that edits the shadow does when it is taken. -/
theorem edit_done {i : Instr} {code : Byte}
    (run : exec i s = .next (answer k code (editShadow k edit s).2 (editShadow k edit s).1))
    (holds : s.shadowOf k = some t) (taken : edit t = .ok u) :
    exec i s = .next (answer k code (.done []) { s with harness.claim := some { owner := k, shadow := u } }) := by
  rw [run, editShadow_ok holds taken]

theorem exec_writeChain (listens : s.listens k = true) (carries : p.length = 4) :
    exec (.writeChain k p) s =
      .next (answer k 0x0A (editShadow k (writeChain p) s).2 (editShadow k (writeChain p) s).1) :=
  congrArg Host.Outcome.next (transact_both 0x0A 4 4 _ listens carries.ge carries.le (by decide))

theorem exec_writeSection (listens : s.listens k = true) (carries : p.length = 11) :
    exec (.writeSection k p) s =
      .next (answer k 0x0B (editShadow k (writeSection p) s).2 (editShadow k (writeSection p) s).1) :=
  congrArg Host.Outcome.next (transact_both 0x0B 11 11 _ listens carries.ge carries.le (by decide))

theorem exec_writeSelvage (listens : s.listens k = true) (low : 3 ≤ p.length) (high : p.length ≤ 35) :
    exec (.writeSelvage k p) s =
      .next (answer k 0x0C (editShadow k (writeSelvage p) s).2 (editShadow k (writeSelvage p) s).1) :=
  congrArg Host.Outcome.next (transact_both 0x0C 3 35 _ listens low high (by decide))

end Edits

/-! ## What the edits examine -/

section Fields

variable {p : List Byte} {t : HarnessTable}

/-- A number in range is its own index. -/
theorem indexOf_val {m : Nat} (i : Fin m) {n : Nat} (number : n = i.val) : indexOf m n = some i := by
  subst number
  simp [indexOf]

/-- WRITE CHAIN by its fields (R131). -/
theorem writeChain_cases :
    (7 < byteAt p 0 → writeChain p t = .error (.range, 0)) ∧
      (byteAt p 0 ≤ 7 → 1536 < wordAt p 1 → writeChain p t = .error (.range, 1)) ∧
      (∀ c : Fin 8, byteAt p 0 = c.val → wordAt p 1 ≤ 1536 → writeChain p t = .ok { t with
        chains := t.chains.set c
          { length := wordAt p 1, enabled := (p.getD 3 0#8).getLsbD 0, ignoreRA := (p.getD 3 0#8).getLsbD 1,
            ignoreRB := (p.getD 3 0#8).getLsbD 2 } }) := by
  refine ⟨fun outside => ?_, fun inside long => ?_, fun c chain short => ?_⟩
  · simp only [writeChain, indexOf_eq_none outside]
  · simp [writeChain, indexOf_val ⟨byteAt p 0, Nat.lt_succ_of_le inside⟩ rfl, long]
  · simp [writeChain, indexOf_val c chain, Nat.not_lt.mpr short]

/-- The content of a section record (R132). -/
theorem sectionRecordOf_cases :
    (byteAt p 1 = 0 → sectionRecordOf p = .ok none) ∧ (3 < byteAt p 1 → sectionRecordOf p = .error 1) ∧
      (∀ x, 1 ≤ byteAt p 1 → byteAt p 1 ≤ 3 →
        sectionOf (byteAt p 1) (wordAt p 2) (wordAt p 4) (wordAt p 6) (wordAt p 8) (byteAt p 10) = .ok x →
        sectionRecordOf p = .ok (some x)) ∧
      (∀ f, 1 ≤ byteAt p 1 → byteAt p 1 ≤ 3 →
        sectionOf (byteAt p 1) (wordAt p 2) (wordAt p 4) (wordAt p 6) (wordAt p 8) (byteAt p 10) = .error f →
        sectionRecordOf p = .error f) := by
  refine ⟨fun unused => by simp [sectionRecordOf, unused], fun beyond => ?_, fun x low high made => ?_,
    fun f low high fails => ?_⟩
  · simp [sectionRecordOf, beyond, Nat.ne_of_gt (Nat.zero_lt_of_lt beyond)]
  · simp [sectionRecordOf, Nat.ne_of_gt low, Nat.not_lt.mpr high, made]
  · simp [sectionRecordOf, Nat.ne_of_gt low, Nat.not_lt.mpr high, fails]

/-- WRITE SECTION by the slot and the content of its record (R132). -/
theorem writeSection_cases :
    (15 < byteAt p 0 → writeSection p t = .error (.range, 0)) ∧
      (byteAt p 0 ≤ 15 → ∀ f, sectionRecordOf p = .error f → writeSection p t = .error (.range, f)) ∧
      (∀ i : Fin 16, byteAt p 0 = i.val → ∀ x, sectionRecordOf p = .ok x →
        writeSection p t = .ok { t with sections := t.sections.set i x }) := by
  refine ⟨fun outside => ?_, fun inside f fails => ?_, fun i slot x made => ?_⟩
  · simp only [writeSection, indexOf_eq_none outside]
  · simp [writeSection, indexOf_val ⟨byteAt p 0, Nat.lt_succ_of_le inside⟩ rfl, fails]
  · simp [writeSection, indexOf_val i slot, made]

section Section

variable {kind first count c0 w last : Nat}

/-- The first hook and the count of a section (R56, log 36). -/
theorem sectionOf_hooks :
    (12287 < first → sectionOf kind first count c0 w last = .error 2) ∧
      (first ≤ 12287 → count = 0 ∨ 12287 < first + count - 1 → sectionOf kind first count c0 w last = .error 3) := by
  refine ⟨fun beyond => by simp [sectionOf, beyond], fun inside fails => ?_⟩
  rw [sectionOf, if_neg (by omega), if_pos (by omega)]

variable (some_ : 1 ≤ count) (inside : first + count - 1 ≤ 12287)

include some_ inside

/-- A FIGURE section whose first hook and count are in their ranges (R56). -/
theorem sectionOf_figure :
    (8191 < c0 → sectionOf 1 first count c0 w last = .error 4) ∧
      (c0 ≤ 8191 → w = 0 ∨ 8191 < c0 + w - 1 → sectionOf 1 first count c0 w last = .error 5) ∧
      (1 ≤ w → c0 + w - 1 ≤ 8191 → sectionModeOf last = none → sectionOf 1 first count c0 w last = .error 6) ∧
      (∀ m, 1 ≤ w → c0 + w - 1 ≤ 8191 → sectionModeOf last = some m →
        sectionOf 1 first count c0 w last = .ok { first := first, count := count, kind := .figure c0 w m }) := by
  have low : ¬ 12287 < first := by omega
  have range : ¬ (count = 0 ∨ 12288 < count ∨ 12287 < first + count - 1) := by omega
  simp only [sectionOf, if_neg low, if_neg range, if_true]
  refine ⟨fun beyond => if_pos beyond, fun column fails => ?_, fun wide columns mode => ?_, fun m wide columns mode => ?_⟩
  · rw [if_neg (by omega), if_pos (by omega)]
  · rw [if_neg (by omega), if_neg (by omega), mode]
  · rw [if_neg (by omega), if_neg (by omega), mode]

/-- A SELVAGE section whose first hook and count are in their ranges (R56, log 36). -/
theorem sectionOf_selvage :
    (3 < last → sectionOf 2 first count c0 w last = .error 6) ∧
      (∀ j : Fin 4, last = j.val →
        sectionOf 2 first count c0 w last = .ok { first := first, count := count, kind := .selvage j }) := by
  have low : ¬ 12287 < first := by omega
  have range : ¬ (count = 0 ∨ 12288 < count ∨ 12287 < first + count - 1) := by omega
  simp only [sectionOf, if_neg low, if_neg range]
  exact ⟨fun outside => by rw [indexOf_eq_none outside]; rfl, fun j weave => by rw [indexOf_val j weave]; rfl⟩

/-- A DEAD section whose first hook and count are in their ranges (R56, log 36). -/
theorem sectionOf_dead :
    sectionOf 3 first count c0 w last = .ok { first := first, count := count, kind := .dead } := by
  have low : ¬ 12287 < first := by omega
  have range : ¬ (count = 0 ∨ 12288 < count ∨ 12287 < first + count - 1) := by omega
  simp only [sectionOf, if_neg low, if_neg range]
  rfl

end Section

/-- A section mode code above 1 names none (R199). -/
theorem sectionModeOf_outside {n : Nat} (beyond : 1 < n) : sectionModeOf n = none := by
  match n, beyond with
  | n + 2, _ => rfl

section Grids

variable {m f width height : Nat} {blank : FieldFailure} {bytes : List Byte}

/-- A grid item by its width, its height and its bytes (R133, R157, R201). -/
theorem gridItemOf_cases :
    (width = 0 → height = 0 → bytes = [] → gridItemOf m f blank width height bytes = .ok none) ∧
      (width = 0 → height = 0 → bytes ≠ [] → gridItemOf m f blank width height bytes = .error blank) ∧
      ((width = 0 ∧ height ≠ 0) ∨ m < width → gridItemOf m f blank width height bytes = .error (.range, f)) ∧
      (1 ≤ width → width ≤ m → height = 0 ∨ m < height →
        gridItemOf m f blank width height bytes = .error (.range, f + 1)) ∧
      (1 ≤ width → width ≤ m → 1 ≤ height → height ≤ m →
        (bytes.length = height * rowBytes width →
          gridItemOf m f blank width height bytes = .ok (some (gridOf width height bytes))) ∧
        (bytes.length ≠ height * rowBytes width → gridItemOf m f blank width height bytes = .error (.length, f + 2))) := by
  unfold gridItemOf
  refine ⟨fun w h empty => by simp [w, h, empty], fun w h full => by simp [w, h, full], fun outside => ?_,
    fun low high outside => ?_, fun low high low' high' => ⟨fun carries => ?_, fun differs => ?_⟩⟩
  · rw [if_neg (by omega), if_pos (by omega)]
  · rw [if_neg (by omega), if_neg (by omega), if_pos outside]
  · rw [if_neg (by omega), if_neg (by omega), if_neg (by omega), if_pos carries]
  · rw [if_neg (by omega), if_neg (by omega), if_neg (by omega), if_neg differs]

/-- The bits of a grid lie row by row in its bytes (R201). -/
theorem gridOf_bit {row col : Nat} (inRow : row < height) (inCol : col < width) :
    (gridOf width height bytes).bit row col =
      (bytes.getD (row * rowBytes width + col / 8) 0#8).getLsbD (col % 8) := by
  simp [Grid.bit, gridOf, List.getD_eq_getElem?_getD, inRow, inCol]

end Grids

/-- WRITE SELVAGE by the weave and its grid item (R133). -/
theorem writeSelvage_cases :
    (3 < byteAt p 0 → writeSelvage p t = .error (.range, 0)) ∧
      (∀ j : Fin 4, byteAt p 0 = j.val →
        (∀ e, gridItemOf 16 1 (.length, 3) (byteAt p 1) (byteAt p 2) (p.drop 3) = .error e →
          writeSelvage p t = .error e) ∧
        (∀ g, gridItemOf 16 1 (.length, 3) (byteAt p 1) (byteAt p 2) (p.drop 3) = .ok g →
          writeSelvage p t = .ok { t with selvages := t.selvages.set j g })) := by
  refine ⟨fun outside => ?_, fun j weave => ⟨fun e fails => ?_, fun g made => ?_⟩⟩
  · simp only [writeSelvage, indexOf_eq_none outside]
  · simp [writeSelvage, indexOf_val j weave, fails]
  · simp [writeSelvage, indexOf_val j weave, made]

end Fields

/-- Settles O28: each edit by its own fields on the table of the claim. -/
theorem shadowEdits : Obligations.ShadowEdits := by
  unfold Obligations.ShadowEdits
  intro k p s listens
  refine ⟨fun lacks => ⟨fun carries => ?_, fun carries => ?_, fun low high => ?_⟩, fun t holds carries => ?_,
    fun t holds carries => ?_, fun t holds low high => ?_⟩
  · rw [exec_writeChain listens carries, editShadow_notClaimed lacks]
  · rw [exec_writeSection listens carries, editShadow_notClaimed lacks]
  · rw [exec_writeSelvage listens low high, editShadow_notClaimed lacks]
  · obtain ⟨chain, long, taken⟩ := writeChain_cases (p := p) (t := t)
    have run := exec_writeChain listens carries
    exact ⟨fun outside => edit_refused run holds (chain outside), fun inside beyond => edit_refused run holds (long inside beyond),
      fun c number short => edit_done run holds (taken c number short)⟩
  · obtain ⟨slot, record, taken⟩ := writeSection_cases (p := p) (t := t)
    obtain ⟨unused, kind, section_, fails⟩ := sectionRecordOf_cases (p := p)
    have run := exec_writeSection listens carries
    refine ⟨fun outside => edit_refused run holds (slot outside), fun inside beyond =>
      edit_refused run holds (record inside 1 (kind beyond)), fun i number => ?_⟩
    have inside : byteAt p 0 ≤ 15 := by omega
    have refuse (f : Nat) (low : 1 ≤ byteAt p 1) (high : byteAt p 1 ≤ 3)
        (h : sectionOf (byteAt p 1) (wordAt p 2) (wordAt p 4) (wordAt p 6) (wordAt p 8) (byteAt p 10) = .error f) :=
      edit_refused run holds (record inside f (fails f low high h))
    have write (x : Section) (low : 1 ≤ byteAt p 1) (high : byteAt p 1 ≤ 3)
        (h : sectionOf (byteAt p 1) (wordAt p 2) (wordAt p 4) (wordAt p 6) (wordAt p 8) (byteAt p 10) = .ok x) :=
      edit_done run holds (taken i number (some x) (section_ x low high h))
    refine ⟨fun none_ => edit_done run holds (taken i number none (unused none_)),
      fun mode figure some_ hooks wide columns code => ?_, fun j selvage some_ hooks weave => ?_,
      fun dead some_ hooks => ?_, ?_⟩
    · refine write _ (by omega) (by omega) ?_
      rw [figure]
      exact (sectionOf_figure some_ hooks).2.2.2 mode wide columns (by cases mode <;> rw [code] <;> rfl)
    · refine write _ (by omega) (by omega) ?_
      rw [selvage]
      exact (sectionOf_selvage some_ hooks).2 j weave
    · refine write _ (by omega) (by omega) ?_
      rw [dead]
      exact sectionOf_dead some_ hooks
    · rintro _ rfl low high
      obtain ⟨first, count⟩ := sectionOf_hooks (kind := byteAt p 1) (first := wordAt p 2) (count := wordAt p 4)
        (c0 := wordAt p 6) (w := wordAt p 8) (last := byteAt p 10)
      refine ⟨fun beyond => refuse 2 low high (first beyond), fun within h => refuse 3 low high (count within h),
        fun some_ hooks => ⟨fun figure column => ?_, fun figure column h => ?_, fun figure wide columns mode => ?_,
          fun selvage weave => ?_⟩⟩
      · exact refuse 4 low high (by rw [figure]; exact (sectionOf_figure some_ hooks).1 column)
      · exact refuse 5 low high (by rw [figure]; exact (sectionOf_figure some_ hooks).2.1 column h)
      · exact refuse 6 low high (by
          rw [figure]; exact (sectionOf_figure some_ hooks).2.2.1 wide columns (sectionModeOf_outside mode))
      · exact refuse 6 low high (by rw [selvage]; exact (sectionOf_selvage some_ hooks).1 weave)
  · obtain ⟨weave, item⟩ := writeSelvage_cases (p := p) (t := t)
    have run := exec_writeSelvage listens low high
    have size : (p.drop 3).length = p.length - 3 := List.length_drop
    refine ⟨fun outside => edit_refused run holds (weave outside), fun j number => ?_⟩
    obtain ⟨fails, made⟩ := item j number
    obtain ⟨undefined_, blank, width, height, grid⟩ := gridItemOf_cases (m := 16) (f := 1) (blank := (.length, 3))
      (width := byteAt p 1) (height := byteAt p 2) (bytes := p.drop 3)
    refine ⟨fun w h short => edit_done run holds (made none (undefined_ w h (by simp [short]))),
      fun w h long => edit_refused run holds (fails _ (blank w h (List.ne_nil_of_length_pos (by omega)))),
      fun h => edit_refused run holds (fails _ (width h)),
      fun low high h => edit_refused run holds (fails _ (height low high h)), fun low high low' high' => ⟨fun carries => ?_,
        fun differs => ?_⟩⟩
    · refine ⟨_, edit_done run holds (made _ ((grid low high low' high').1 ?_)), rfl, rfl, fun row col inRow inCol => ?_⟩
      · rw [size, carries, rowBytes]
        omega
      · rw [gridOf_bit (width := byteAt p 1) (height := byteAt p 2) inRow inCol]
        simp [List.getD_eq_getElem?_getD, rowBytes]
    · refine edit_refused run holds (fails _ ((grid low high low' high').2 ?_))
      rw [size, rowBytes]
      omega

end Sys2Proof.Proofs
end

section
/-! PROOF. COMMIT HARNESS (R134–R136). -/

namespace Sys2Proof.Proofs

open Sys2Proof.Machine

/-! ## The validation -/

/-- The first slot in ascending order for which a function has a value. -/
theorem findSome?_finRange_eq_some {α : Type} {n : Nat} {f : Fin n → Option α} {i : Fin n} {b : α} (here : f i = some b)
    (before : ∀ j < i, f j = none) : (List.finRange n).findSome? f = some b := by
  cases found : (List.finRange n).findSome? f with
  | none =>
    rw [List.findSome?_eq_none_iff] at found
    exact absurd (found i (List.mem_finRange i)) (by simp [here])
  | some c =>
    obtain ⟨l, j, r, split_, value, earlier⟩ := List.findSome?_eq_some_iff.mp found
    have sorted : (l ++ j :: r).Pairwise (· < ·) := split_ ▸ List.pairwise_lt_finRange n
    have member : i ∈ l ++ j :: r := split_ ▸ List.mem_finRange i
    rcases List.mem_append.mp member with left | right
    · exact absurd (earlier i left) (by simp [here])
    · rcases List.mem_cons.mp right with rfl | later
      · rw [← value, here]
      · have below : j < i := (List.pairwise_cons.mp (List.pairwise_append.mp sorted).2.1).1 i later
        exact absurd (before j below) (by simp [value])

section Validation

variable {t : HarnessTable} {width : Option Nat} {i : Fin 16} {c : InvalidCause}

/-- The lowest slot that fails decides, with its cause (R135). -/
theorem failure_eq_some (fails : t.Fails width i c) (before : ∀ j, j < i → ∀ x, ¬ t.Fails width j x) :
    t.failure width = some (i, c) := by
  refine findSome?_finRange_eq_some (i := i) ?_ fun j below => ?_
  · rw [(slotFailure_eq_some_iff _ _ _ c).mpr fails]
    rfl
  · rw [(slotFailure_eq_none_iff _ _ _).mpr (before j below)]
    rfl

end Validation

/-! ## The rule of the command -/

section Commit

variable {k : Link} {s : State} {t : HarnessTable}

theorem exec_commitHarness (listens : s.listens k = true) :
    exec (.commitHarness k []) s = .next (answer k 0x0D (commitHarness k s).2 (commitHarness k s).1) :=
  congrArg Host.Outcome.next (transact_both_bare k s 0x0D (commitHarness k) listens)

/-- The width against which a commit is validated (R135). -/
theorem weavingWidth_eq : s.weavingWidth =
    (if s.pick.engine = .noArticle then none else s.pick.position.map fun p => (s.article p.bank).width) := by
  unfold State.weavingWidth State.weaves
  by_cases noArticle : s.pick.engine = .noArticle <;> simp [noArticle]

/-- COMMIT HARNESS by its checks in their order (R134). -/
theorem commitHarness_cases :
    (s.shadowOf k = none → commitHarness k s = (s, .refused .notClaimed .none)) ∧
      (s.shadowOf k = some t →
        ((s.harness.keep || s.harness.fixed) = true → commitHarness k s = (s, .refused .locked .none)) ∧
        ((s.harness.keep || s.harness.fixed) = false → s.pick.engine ≠ .noArticle → s.shaft.motion ≠ .still →
          commitHarness k s = (s, .refused .moving .none)) ∧
        ((s.harness.keep || s.harness.fixed) = false → (s.pick.engine ≠ .noArticle → s.shaft.motion = .still) →
          (∀ i c, t.failure s.weavingWidth = some (i, c) → commitHarness k s = (s, .refused .invalid (.slotCause i c))) ∧
          (t.failure s.weavingWidth = none → commitHarness k s = (commitTable k t s, .done [])))) := by
  unfold commitHarness
  refine ⟨fun lacks => by simp [lacks, refuse], fun holds => ?_⟩
  simp only [holds]
  refine ⟨fun locked => if_pos locked, fun unlocked weaving moving => ?_, fun unlocked still => ?_⟩
  · have free : ¬ s.harness.locked = true := by simpa [HarnessUnit.locked] using unlocked
    have moves : (s.weaves && s.shaft.motion != .still) = true := by simp [State.weaves, weaving, moving]
    rw [if_neg free, if_pos moves]
    rfl
  · have free : ¬ s.harness.locked = true := by simpa [HarnessUnit.locked] using unlocked
    have rests : ¬ (s.weaves && s.shaft.motion != .still) = true := by simpa [State.weaves] using still
    rw [if_neg free, if_neg rests]
    exact ⟨fun i c fails => by rw [fails], fun passes => by rw [passes]; rfl⟩

end Commit

/-! ## The effects -/

section Effects

variable {k : Link} {s : State} {t : HarnessTable} {p : Position} {c : Cause}

/-- A re-form that starts or waits leaves the drivers following (R119, R122). -/
theorem driversFollow_startReform (h : s.DriversFollow) : (startReform c s).DriversFollow := by
  have completed {x : State} (h : x.DriversFollow) : (completeReform x).DriversFollow := by
    unfold completeReform
    split
    · split
      next d _ _ _ cause _ =>
        exact driversFollow_congr (s := takeReform d cause x) (by simp [driverView]) (driversFollow_followDrivers _)
      · exact h
    · exact h
  unfold startReform
  split
  · unfold beginReform
    split
    · exact h
    next q _ =>
      have begun : (beginFrame (.reform c) q false s.pick.counter (Machine.discard s)).DriversFollow :=
        driversFollow_congr (by simp [driverView]) h
      dsimp only
      split
      · exact completed begun
      · exact begun
  · exact driversFollow_congr rfl h

/-- A selection carried over to another table's chains, position by position (R117). -/
theorem relayout_chain (sel : Selection) (c : Fin 8) :
    (sel[c] = none → (relayout t sel)[c] = none) ∧
      (∀ l, sel[c] = some l → ∃ l', (relayout t sel)[c] = some l' ∧ l'.length = (t.chains[c]).length ∧
        ∀ j, j < l'.length → l'.getD j false = l.getD j false) := by
  have here : (relayout t sel)[c] =
      (sel[c]).map fun l => (List.range (t.chains[c]).length).map fun j => l.getD j false := by simp [relayout]
  refine ⟨fun none_ => by rw [here, none_]; rfl, fun l held => ⟨_, by rw [here, held]; rfl, by simp, fun j below => ?_⟩⟩
  have within : j < (t.chains[c.val]).length := by simpa using below
  simp [List.getD_eq_getElem?_getD, within]

/-- A frame in the slot stays where slot, banks, alternation and availability stay. -/
theorem holds_congr {u : State} {kind : FrameKind} (h : s.Holds kind p) (slot : u.frame.slot = s.frame.slot)
    (a : u.store.bankA = s.store.bankA) (b : u.store.bankB = s.store.bankB)
    (alternation : u.frame.alternation = s.frame.alternation) (available : u.frame.available = s.frame.available) :
    u.Holds kind p := by
  obtain ⟨d, held, hkind, position, feeds⟩ := h
  exact ⟨d, by rw [slot, held], hkind, position, feeds_congr feeds a b alternation available rfl⟩

/-- The effects of a commit whatever weaves (R136). -/
theorem commitTable_always :
    (commitTable k t s).harness.live = t ∧ (commitTable k t s).harness.claim = none ∧
      (commitTable k t s).frame.committed = [] ∧ (commitTable k t s).DriversFollow ∧
      (k = .loom → (commitTable k t s).design.flags.getLsbD 10 = true) ∧
      (k = .design → (commitTable k t s).loom.flags.getLsbD 13 = true) ∧
      (commitTable k t s).pick.position = s.pick.position ∧ (commitTable k t s).pick.counter = s.pick.counter ∧
      (commitTable k t s).pick.engine = s.pick.engine ∧ (commitTable k t s).harness.drive = s.harness.drive ∧
      (commitTable k t s).frame.alternation = s.frame.alternation := by
  have taken : (takeTable t s).DriversFollow := driversFollow_followDrivers _
  have drive : (takeTable t s).harness.drive = s.harness.drive ∧
      (takeTable t s).frame.alternation = s.frame.alternation := by simp [takeTable]
  obtain ⟨drive, alternation⟩ := drive
  rw [commitTable_eq]
  refine ⟨?_, ?_, ?_, driversFollow_raise _ _ ?_, ?_, ?_, ?_, ?_, ?_, ?_, ?_⟩
  · split <;> simp
  · split <;> simp
  · split <;> simp [committed_startReform]
  · split
    · exact driversFollow_startReform taken
    · exact taken
  · rintro rfl
    simp [otherLink, eventBit, eventNumber]
  · rintro rfl
    simp [otherLink, eventBit, eventNumber]
  all_goals split <;> simp [drive, alternation]

/-- A commit with no article weaving (R117, R136). -/
theorem commitTable_noArticle (noArticle : s.pick.engine = .noArticle) :
    (commitTable k t s).frame.latched = Vector.replicate 8 none ∧ (commitTable k t s).frame.slot = s.frame.slot ∧
      (commitTable k t s).store = s.store := by
  have idle : s.weaves = false := by simp [State.weaves, noArticle]
  rw [commitTable_eq]
  simp [idle, takeTable, Selection.empty]

/-- With hooks to shift a re-form that starts or waits leaves the shed, the standstill stage, the history and the banks
(R106, R107). -/
theorem startReform_waits (hooks : s.harness.live.hooks ≠ 0) :
    (startReform c s).frame.latched = s.frame.latched ∧ (startReform c s).harness.stage = s.harness.stage ∧
      (startReform c s).pick.history = s.pick.history ∧ (startReform c s).store.bankA = s.store.bankA ∧
      (startReform c s).store.bankB = s.store.bankB := by
  by_cases referenced : s.shaft.reference = .referenced
  · rw [startReform_of_referenced s c referenced]
    cases at_ : s.pick.position with
    | none => simp [beginReform, at_]
    | some p =>
      rw [beginReform_of_hooks s c p at_ hooks]
      simp
  · rw [startReform_of_not_referenced s c referenced]
    simp

/-- A commit with an article weaving and hooks to shift (R117, R136). -/
theorem commitTable_weaving (weaving : s.pick.engine ≠ .noArticle) (hooks : t.hooks ≠ 0) :
    (commitTable k t s).frame.latched = relayout t s.frame.latched ∧
      (commitTable k t s).harness.stage = s.harness.stage ∧ (commitTable k t s).pick.history = s.pick.history ∧
      (commitTable k t s).store.bankA = s.store.bankA ∧ (commitTable k t s).store.bankB = s.store.bankB ∧
      (s.shaft.reference ≠ .referenced → (commitTable k t s).frame.owed = some .reform) ∧
      (s.shaft.reference = .referenced → ∀ p, s.pick.position = some p →
        (commitTable k t s).Holds (.reform .reform) p) := by
  have weaves : s.weaves = true := by simpa [State.weaves] using weaving
  obtain ⟨latched, stage, history, a, b⟩ := startReform_waits (s := takeTable t s) (c := .reform) (by simpa using hooks)
  have shed : (takeTable t s).frame.latched = relayout t s.frame.latched ∧
      (takeTable t s).harness.stage = s.harness.stage := by simp [takeTable, weaves]
  rw [commitTable_eq, if_pos weaves]
  refine ⟨by simp [latched, shed], by simp [stage, shed], by simp [history], by simp [a], by simp [b],
    fun away => ?_, fun referenced p at_ => ?_⟩
  · rw [startReform_of_not_referenced _ _ (by simpa using away)]
    simp
  · rw [startReform_of_referenced _ _ (by simpa using referenced)]
    exact holds_congr (beginReform_pending (s := takeTable t s) (c := .reform) (by simpa using at_) (by simpa using hooks)).1 (by simp)
      (by simp) (by simp) (by simp) (by simp)

end Effects

/-- Settles O29: the checks in their order, the validation by the lowest slot that fails, and the effects of a commit. -/
theorem commitHarnessChecksAndEffects : Obligations.CommitHarnessChecksAndEffects := by
  unfold Obligations.CommitHarnessChecksAndEffects
  intro k s listens
  rw [exec_commitHarness listens]
  refine ⟨fun lacks => by rw [(commitHarness_cases (t := s.harness.live)).1 lacks], fun t holds => ?_⟩
  obtain ⟨locked, moving, commits⟩ := commitHarness_cases.2 holds
  refine ⟨fun h => by rw [locked h], fun free weaving moves => by rw [moving free weaving moves], ?_⟩
  rintro free still _ rfl
  obtain ⟨refuses, takes⟩ := commits free still
  rw [← weavingWidth_eq]
  refine ⟨fun i c fails before => by rw [refuses i c (failure_eq_some fails before)], fun valid => ?_⟩
  have passes : t.failure s.weavingWidth = none := (failure_eq_none_iff _ _).mpr valid
  obtain ⟨live, claim, committed, drivers, design, loom, position, counter, engine, drive, alternation⟩ :=
    commitTable_always (k := k) (s := s) (t := t)
  refine ⟨commitTable k t s, by rw [takes passes], sound_of_valid _ _ passes, live, claim, committed, drivers, ?_, position,
    counter, engine, drive, alternation, commitTable_noArticle, fun weaving hooks => ?_⟩
  · cases k
    · exact design rfl
    · exact loom rfl
  · obtain ⟨latched, kept⟩ := commitTable_weaving (k := k) weaving hooks
    rw [latched]
    exact ⟨relayout_chain _, kept⟩

end Sys2Proof.Proofs
end

section
/-! PROOF. DEFINE SCHEME, DEFINE WEAVE and DEFINE FEEDERS (R155–R158). -/

namespace Sys2Proof.Proofs

open Sys2Proof.Machine

/-! ## A write of the record on a link that listens -/

section Record

variable {b : BankId} {s : State} {a u : Article} {p : List Byte} {edit : Article → Except FieldFailure Article}
  {e : FieldFailure} {i : Instr} {code : Byte}

/-- A write of the record of a bank that is not OPEN (R155). -/
theorem editRecord_bankState (closed : (s.bank b).state ≠ .opened) :
    editRecord b edit s = (s, .refused .bankState .none) := if_neg closed

/-- A write whose field fails (R155, R188). -/
theorem editRecord_error (opened : (s.bank b).state = .opened) (held : (s.bank b).record = some a)
    (fails : edit a = .error e) : editRecord b edit s = (s, .refused e.1 (.number e.2)) := by
  have article : s.article b = a := by simp [State.article, Bank.article, held]
  rw [editRecord, if_pos opened, article, fails]
  rfl

/-- A write that is taken (R155). -/
theorem editRecord_ok (opened : (s.bank b).state = .opened) (held : (s.bank b).record = some a) (taken : edit a = .ok u) :
    editRecord b edit s = (s.setBank b { s.bank b with record := some u }, .done []) := by
  have article : s.article b = a := by simp [State.article, Bank.article, held]
  rw [editRecord, if_pos opened, article, taken]
  rfl

/-- What a define command answers to a field that fails. -/
theorem define_refused {reason : Reason} {field : Nat}
    (run : exec i s = .next (answer .design code (editRecord b edit s).2 (editRecord b edit s).1))
    (opened : (s.bank b).state = .opened) (held : (s.bank b).record = some a) (fails : edit a = .error (reason, field)) :
    exec i s = .next (answer .design code (.refused reason (.number field)) s) := by
  rw [run, editRecord_error opened held fails]

/-- What a define command does when it is taken. -/
theorem define_done
    (run : exec i s = .next (answer .design code (editRecord b edit s).2 (editRecord b edit s).1))
    (opened : (s.bank b).state = .opened) (held : (s.bank b).record = some a) (taken : edit a = .ok u) :
    exec i s = .next (answer .design code (.done []) (s.setBank b { s.bank b with record := some u })) := by
  rw [run, editRecord_ok opened held taken]

theorem exec_defineScheme (b : BankId) (listens : s.listens .design = true) (low : 2 ≤ p.length) (high : p.length ≤ 26) :
    exec (.defineScheme .design (BitVec.ofNat 8 (bankCode b) :: p)) s =
      .next (answer .design 0x42 (editRecord b (defineScheme (BitVec.ofNat 8 (bankCode b) :: p)) s).2
        (editRecord b (defineScheme (BitVec.ofNat 8 (bankCode b) :: p)) s).1) :=
  congrArg Host.Outcome.next (transact_bank b 0x42 3 27 p (fun b => editRecord b (defineScheme _)) listens (by omega)
    (by omega) (by decide))

theorem exec_defineWeave (b : BankId) (listens : s.listens .design = true) (low : 4 ≤ p.length) (high : p.length ≤ 76) :
    exec (.defineWeave .design (BitVec.ofNat 8 (bankCode b) :: p)) s =
      .next (answer .design 0x43 (editRecord b (defineWeave (BitVec.ofNat 8 (bankCode b) :: p)) s).2
        (editRecord b (defineWeave (BitVec.ofNat 8 (bankCode b) :: p)) s).1) :=
  congrArg Host.Outcome.next (transact_bank b 0x43 5 77 p (fun b => editRecord b (defineWeave _)) listens (by omega)
    (by omega) (by decide))

theorem exec_defineFeeders (b : BankId) (listens : s.listens .design = true) (carries : p.length = 4) :
    exec (.defineFeeders .design (BitVec.ofNat 8 (bankCode b) :: p)) s =
      .next (answer .design 0x44 (editRecord b (defineFeeders (BitVec.ofNat 8 (bankCode b) :: p)) s).2
        (editRecord b (defineFeeders (BitVec.ofNat 8 (bankCode b) :: p)) s).1) :=
  congrArg Host.Outcome.next (transact_bank b 0x44 5 5 p (fun b => editRecord b (defineFeeders _)) listens (by omega)
    (by omega) (by decide))

end Record

/-! ## The steps of a scheme -/

/-- The bytes of the steps of a scheme (R156). -/
def stepBytes (steps : List SchemeStep) : List Byte :=
  steps.flatMap fun x => [BitVec.ofNat 8 x.system.val, BitVec.ofNat 8 x.shift]

section Steps

variable {steps good : List SchemeStep} {rest : List Byte} {f m : Nat} {w z : Byte}

theorem stepBytes_length : (stepBytes steps).length = 2 * steps.length := by
  induction steps with
  | nil => rfl
  | cons x steps ih => simp only [stepBytes, List.flatMap_cons, List.length_append, List.length_cons, List.length_nil] at ih ⊢; omega

/-- Steps in their ranges are read one after the other, and the fields after them from the next field number on (R156). -/
theorem stepsOf_append (ranges : ∀ x ∈ good, x.shift ≤ 23) :
    stepsOf (good.length + m) (stepBytes good ++ rest) f =
      (stepsOf m rest (f + 2 * good.length)).map (good ++ ·) := by
  induction good generalizing f with
  | nil =>
    simp only [List.length_nil, Nat.zero_add, stepBytes, List.flatMap_nil, List.nil_append]
    cases stepsOf m rest f <;> rfl
  | cons x good ih =>
    have shift : x.shift ≤ 23 := ranges x (List.mem_cons_self ..)
    have number : (BitVec.ofNat 8 x.shift).toNat = x.shift := by
      rw [BitVec.toNat_ofNat, Nat.mod_eq_of_lt (by omega)]
    have system : indexOf 8 (BitVec.ofNat 8 x.system.val).toNat = some x.system :=
      indexOf_val x.system (by rw [BitVec.toNat_ofNat, Nat.mod_eq_of_lt (by omega)])
    have rest_ := ih (f := f + 2) fun y member => ranges y (List.mem_cons_of_mem _ member)
    have next : f + 2 * (x :: good).length = f + 2 + 2 * good.length := by simp only [List.length_cons]; omega
    have count : (x :: good).length + m = (good.length + m) + 1 := by simp only [List.length_cons]; omega
    rw [count, next, show stepBytes (x :: good) ++ rest =
      BitVec.ofNat 8 x.system.val :: BitVec.ofNat 8 x.shift :: (stepBytes good ++ rest) from rfl, stepsOf, system]
    simp only [number, Nat.not_lt.mpr shift, if_false, rest_]
    cases stepsOf m rest (f + 2 + 2 * good.length) <;> rfl

/-- The fields that end a scheme: the first that fails, with its number (R156, log 18). -/
theorem stepsOf_fails :
    stepsOf 0 (w :: rest) f = .error (.length, f) ∧ stepsOf (m + 1) [] f = .error (.length, f) ∧
      (7 < w.toNat → stepsOf (m + 1) (w :: rest) f = .error (.range, f)) ∧
      (w.toNat ≤ 7 → stepsOf (m + 1) [w] f = .error (.length, f + 1)) ∧
      (w.toNat ≤ 7 → 23 < z.toNat → stepsOf (m + 1) (w :: z :: rest) f = .error (.range, f + 1)) := by
  refine ⟨rfl, rfl, fun system => ?_, fun system => ?_, fun system shift => ?_⟩
  · rw [stepsOf, indexOf_eq_none (by omega)]
  · rw [stepsOf, indexOf_eq_some (Nat.lt_succ_of_le system)]
  · rw [stepsOf, indexOf_eq_some (Nat.lt_succ_of_le system)]
    exact if_pos shift

/-- The steps of a scheme carried as many as the count says (R156). -/
theorem stepsOf_all (ranges : ∀ x ∈ steps, x.shift ≤ 23) : stepsOf steps.length (stepBytes steps) f = .ok steps := by
  have read := stepsOf_append (m := 0) (rest := []) (f := f) ranges
  rw [Nat.add_zero, List.append_nil] at read
  rw [read]
  simp [stepsOf, Except.map]

/-- Fewer or more steps than the count says (R156, log 18). -/
theorem stepsOf_miscounted (ranges : ∀ x ∈ steps, x.shift ≤ 23) {c : Nat} (differs : c ≠ steps.length) :
    stepsOf c (stepBytes steps) f = .error (.length, f + 2 * min c steps.length) := by
  rcases Nat.lt_or_gt_of_ne differs with fewer | more
  · obtain ⟨w, rest, tail⟩ : ∃ w rest, stepBytes (steps.drop c) = w :: rest := by
      refine List.exists_cons_of_ne_nil (List.ne_nil_of_length_pos ?_)
      rw [stepBytes_length, List.length_drop]
      omega
    have split_ : stepBytes steps = stepBytes (steps.take c) ++ w :: rest := by
      rw [← tail, stepBytes, stepBytes, stepBytes, ← List.flatMap_append, List.take_append_drop]
    have read := stepsOf_append (m := 0) (rest := w :: rest) (f := f) (good := steps.take c)
      fun x member => ranges x (List.mem_of_mem_take member)
    rw [List.length_take, Nat.add_zero, Nat.min_eq_left fewer.le] at read
    rw [split_, read, Nat.min_eq_left fewer.le]
    rfl
  · obtain ⟨m, rfl⟩ : ∃ m, c = steps.length + (m + 1) := ⟨c - steps.length - 1, by omega⟩
    have read := stepsOf_append (m := m + 1) (rest := []) (f := f) ranges
    rw [List.append_nil] at read
    rw [read, Nat.min_eq_right (by omega)]
    rfl

end Steps

/-! ## What the define commands examine -/

section Fields

variable {p : List Byte} {a : Article}

/-- DEFINE SCHEME by its fields (R156). -/
theorem defineScheme_cases :
    (7 < byteAt p 1 → defineScheme p a = .error (.range, 1)) ∧
      (byteAt p 1 ≤ 7 → 12 < byteAt p 2 → defineScheme p a = .error (.range, 2)) ∧
      (∀ n : Fin 8, byteAt p 1 = n.val → byteAt p 2 ≤ 12 →
        (∀ e, stepsOf (byteAt p 2) (p.drop 3) 3 = .error e → defineScheme p a = .error e) ∧
        (∀ l, stepsOf (byteAt p 2) (p.drop 3) 3 = .ok l →
          defineScheme p a = .ok { a with schemes := a.schemes.set n (if l = [] then none else some l) })) := by
  refine ⟨fun outside => ?_, fun inside long => ?_, fun n number short => ⟨fun e fails => ?_, fun l made => ?_⟩⟩
  · simp only [defineScheme, indexOf_eq_none outside]
  · simp [defineScheme, indexOf_eq_some (Nat.lt_succ_of_le inside), long]
  · simp [defineScheme, indexOf_val n number, Nat.not_lt.mpr short, fails]
  · simp [defineScheme, indexOf_val n number, Nat.not_lt.mpr short, made]

/-- DEFINE WEAVE by its fields (R157). -/
theorem defineWeave_cases :
    (7 < byteAt p 1 → defineWeave p a = .error (.range, 1)) ∧
      (byteAt p 1 ≤ 7 → 3 < byteAt p 2 → defineWeave p a = .error (.range, 2)) ∧
      (∀ (ws : Fin 8) (e : Fin 4), byteAt p 1 = ws.val → byteAt p 2 = e.val →
        (∀ x, gridItemOf 24 3 (.range, 3) (byteAt p 3) (byteAt p 4) (p.drop 5) = .error x →
          defineWeave p a = .error x) ∧
        (∀ g, gridItemOf 24 3 (.range, 3) (byteAt p 3) (byteAt p 4) (p.drop 5) = .ok g →
          defineWeave p a = .ok { a with weaves := a.weaves.set ws ((a.weaves[ws]).set e g) })) := by
  refine ⟨fun outside => ?_, fun inside outside => ?_, fun ws e system effect => ⟨fun x fails => ?_, fun g made => ?_⟩⟩
  · simp only [defineWeave, indexOf_eq_none outside]
  · simp only [defineWeave, indexOf_eq_some (Nat.lt_succ_of_le inside), indexOf_eq_none outside]
  · simp [defineWeave, indexOf_val ws system, indexOf_val e effect, fails]
  · simp [defineWeave, indexOf_val ws system, indexOf_val e effect, made]

/-- DEFINE FEEDERS by its fields (R158). -/
theorem defineFeeders_cases :
    (7 < byteAt p 1 → defineFeeders p a = .error (.range, 1)) ∧
      (∀ ws : Fin 8, byteAt p 1 = ws.val →
        (∀ f, feederEntryOf (byteAt p 2) (byteAt p 3) (byteAt p 4) = .error f → defineFeeders p a = .error (.range, f)) ∧
        (∀ e, feederEntryOf (byteAt p 2) (byteAt p 3) (byteAt p 4) = .ok e →
          defineFeeders p a = .ok { a with feeders := a.feeders.set ws e })) := by
  refine ⟨fun outside => ?_, fun ws system => ⟨fun f fails => ?_, fun e made => ?_⟩⟩
  · simp only [defineFeeders, indexOf_eq_none outside]
  · simp [defineFeeders, indexOf_val ws system, fails]
  · simp [defineFeeders, indexOf_val ws system, made]

section Entry

variable {x y m : Nat}

/-- A feeder number in a reply is the one its field carried (R158, R203). -/
theorem feederCode_feederOf (low : y ≤ 8) : feederCode (feederOf y) = y := by
  rcases Nat.eq_zero_or_pos y with rfl | positive
  · rfl
  · rw [feederOf, dif_pos ⟨positive, low⟩]
    simp only [feederCode]
    omega

/-- An alternate that is 0 or names a feeder (R158). -/
theorem alternate_fits (low : y ≤ 8) : ¬ (y ≠ 0 ∧ feederOf y = none) := by
  rintro ⟨positive, missing⟩
  simp [feederOf] at missing
  omega

/-- An entry of DEFINE FEEDERS by its primary, its alternate and its mode (R158). -/
theorem feederEntryOf_cases :
    feederEntryOf 0 y m = .ok none ∧ (8 < x → feederEntryOf x y m = .error 2) ∧
      (1 ≤ x → x ≤ 8 → 8 < y ∨ y = x → feederEntryOf x y m = .error 3) ∧
      (1 ≤ x → x ≤ 8 → y ≤ 8 → y ≠ x → feederModeOf m = none → feederEntryOf x y m = .error 4) ∧
      (∀ (f : Fin 8) (mode : FeederMode), x = f.val + 1 → y ≤ 8 → y ≠ x → feederModeOf m = some mode →
        feederEntryOf x y m = .ok (some { primary := f, alternate := feederOf y, mode := mode })) := by
  have primary (low : 1 ≤ x) (high : x ≤ 8) : feederOf x = some ⟨x - 1, by omega⟩ := dif_pos ⟨low, high⟩
  refine ⟨rfl, fun beyond => ?_, fun low high wrong => ?_, fun low high fits other mode => ?_,
    fun f mode here fits other code => ?_⟩
  · have missing : feederOf x = none := feederOf_outside (.inr beyond)
    simp [feederEntryOf, missing, Nat.ne_of_gt (Nat.zero_lt_of_lt beyond)]
  · have refused : (y ≠ 0 ∧ feederOf y = none) ∨ y = x := by
      refine wrong.imp (fun beyond => ⟨by omega, feederOf_outside (.inr beyond)⟩) id
    simp only [feederEntryOf, primary low high, if_neg (Nat.ne_of_gt low), if_pos refused]
  · have taken : ¬ ((y ≠ 0 ∧ feederOf y = none) ∨ y = x) := fun h => h.elim (alternate_fits fits) other
    simp only [feederEntryOf, primary low high, if_neg (Nat.ne_of_gt low), if_neg taken, mode]
  · have taken : ¬ ((y ≠ 0 ∧ feederOf y = none) ∨ y = x) := fun h => h.elim (alternate_fits fits) other
    subst here
    simp only [feederEntryOf, primary (by omega) (by omega), if_neg (Nat.succ_ne_zero _), if_neg taken, code,
      Nat.add_sub_cancel]

/-- A feeder mode code above 1 names none (R199). -/
theorem feederModeOf_outside (beyond : 1 < m) : feederModeOf m = none := by
  match m, beyond with
  | m + 2, _ => rfl

end Entry

end Fields

/-- Settles O45: each command by its own fields on the record of an OPEN bank. -/
theorem defineCommandsEditTheRecord : Obligations.DefineCommandsEditTheRecord := by
  unfold Obligations.DefineCommandsEditTheRecord
  intro b s listens
  dsimp only
  have byte {m : Nat} (i : Fin m) (small : m ≤ 256) : (BitVec.ofNat 8 i.val).toNat = i.val := by
    rw [BitVec.toNat_ofNat, Nat.mod_eq_of_lt (by omega)]
  refine ⟨fun closed => ⟨fun p low high => ?_, fun p low high => ?_, fun p carries => ?_⟩, fun a opened held =>
    ⟨fun n m p short => ?_, fun n steps short ranges => ?_, fun n c steps short count differs ranges => ?_,
      fun n c w good rest short count ranges => ?_, fun ws e w h grid short => ?_, fun n m w h grid short => ?_,
      fun n x y m outside => ?_, fun ws x y m => ?_⟩⟩
  · rw [exec_defineScheme b listens low high, editRecord_bankState closed]
  · rw [exec_defineWeave b listens low high, editRecord_bankState closed]
  · rw [exec_defineFeeders b listens carries, editRecord_bankState closed]
  · have run := exec_defineScheme (p := n :: m :: p) b listens (by simp) (by simp; omega)
    obtain ⟨number, count, -⟩ := defineScheme_cases (p := BitVec.ofNat 8 (bankCode b) :: n :: m :: p) (a := a)
    exact ⟨fun outside => define_refused run opened held (number outside),
      fun inside long => define_refused run opened held (count inside long)⟩
  · have size := stepBytes_length (steps := steps)
    have run := exec_defineScheme (p := BitVec.ofNat 8 n.val :: BitVec.ofNat 8 steps.length :: stepBytes steps) b listens
      (by simp) (by simp [size]; omega)
    have count : (BitVec.ofNat 8 steps.length).toNat = steps.length := by
      rw [BitVec.toNat_ofNat, Nat.mod_eq_of_lt (by omega)]
    obtain ⟨-, -, fields⟩ := defineScheme_cases (a := a)
      (p := BitVec.ofNat 8 (bankCode b) :: BitVec.ofNat 8 n.val :: BitVec.ofNat 8 steps.length :: stepBytes steps)
    refine define_done run opened held ((fields n (byte n (by decide)) (count.le.trans short)).2 steps ?_)
    exact (congrArg (stepsOf · (stepBytes steps) 3) count).trans (stepsOf_all ranges)
  · have size := stepBytes_length (steps := steps)
    have run := exec_defineScheme (p := BitVec.ofNat 8 n.val :: c :: stepBytes steps) b listens (by simp)
      (by simp [size]; omega)
    obtain ⟨-, -, fields⟩ := defineScheme_cases (a := a)
      (p := BitVec.ofNat 8 (bankCode b) :: BitVec.ofNat 8 n.val :: c :: stepBytes steps)
    exact define_refused run opened held ((fields n (byte n (by decide)) count).1 _ (stepsOf_miscounted ranges differs))
  · have size := stepBytes_length (steps := good)
    have run := exec_defineScheme (p := BitVec.ofNat 8 n.val :: c :: (stepBytes good ++ w :: rest)) b listens (by simp)
      (by simp [size]; omega)
    obtain ⟨-, -, fields⟩ := defineScheme_cases (a := a)
      (p := BitVec.ofNat 8 (bankCode b) :: BitVec.ofNat 8 n.val :: c :: (stepBytes good ++ w :: rest))
    have refuse (reason : Reason) (field m : Nat) (here : c.toNat = good.length + m)
        (fails : stepsOf m (w :: rest) (3 + 2 * good.length) = .error (reason, field)) :=
      define_refused run opened held ((fields n (byte n (by decide)) count).1 (reason, field) (by
        refine (congrArg (stepsOf · (stepBytes good ++ w :: rest) 3) here).trans ?_
        rw [stepsOf_append ranges, fails]
        rfl))
    have more (h : good.length < c.toNat) : ∃ m, c.toNat = good.length + (m + 1) := ⟨c.toNat - good.length - 1, by omega⟩
    refine ⟨fun all => refuse _ _ 0 all rfl, fun further system => ?_, fun further system none_ => ?_,
      fun z rest' further system carries shift => ?_⟩
    · obtain ⟨m, here⟩ := more further
      exact refuse _ _ (m + 1) here (stepsOf_fails (z := 0).2.2.1 system)
    · obtain ⟨m, here⟩ := more further
      subst none_
      exact refuse _ _ (m + 1) here (by rw [(stepsOf_fails (rest := []) (z := 0)).2.2.2.1 system, Nat.add_right_comm])
    · obtain ⟨m, here⟩ := more further
      subst carries
      exact refuse _ _ (m + 1) here (by rw [stepsOf_fails.2.2.2.2 system shift, Nat.add_right_comm])
  · have run := exec_defineWeave (p := BitVec.ofNat 8 ws.val :: BitVec.ofNat 8 e.val :: w :: h :: grid) b listens (by simp)
      (by simp; omega)
    obtain ⟨-, -, fields⟩ := defineWeave_cases (a := a)
      (p := BitVec.ofNat 8 (bankCode b) :: BitVec.ofNat 8 ws.val :: BitVec.ofNat 8 e.val :: w :: h :: grid)
    obtain ⟨fails, made⟩ := fields ws e (byte ws (by decide)) (byte e (by decide))
    obtain ⟨undefined_, blank, width, height, sized⟩ := gridItemOf_cases (m := 24) (f := 3) (blank := (.range, 3))
      (width := w.toNat) (height := h.toNat) (bytes := grid)
    have zero {x : Byte} (h : x.toNat = 0) : x = 0#8 := BitVec.eq_of_toNat_eq h
    refine ⟨fun w0 h0 empty => define_done run opened held (made none (undefined_ (by rw [w0]; rfl) (by rw [h0]; rfl) empty)),
      fun low high low' high' => ⟨fun carries => ?_, fun differs => ?_⟩, fun w0 some_ => ?_, fun low high outside => ?_,
      fun wide => define_refused run opened held (fails _ (width (.inr wide)))⟩
    · refine ⟨_, define_done run opened held (made _ ((sized low high low' high').1 carries)), rfl, rfl, fun row col => ?_⟩
      exact gridOf_bit
    · exact define_refused run opened held (fails _ ((sized low high low' high').2 differs))
    · have w0' : w.toNat = 0 := by rw [w0]; rfl
      by_cases h0 : h.toNat = 0
      · exact define_refused run opened held (fails _ (blank w0' h0 (some_.resolve_left (not_not_intro (zero h0)))))
      · exact define_refused run opened held (fails _ (width (.inl ⟨w0', h0⟩)))
    · exact define_refused run opened held (fails _ (height low high (outside.imp (fun h0 => by rw [h0]; rfl) id)))
  · have run := exec_defineWeave (p := n :: m :: w :: h :: grid) b listens (by simp) (by simp; omega)
    obtain ⟨system, effect, -⟩ := defineWeave_cases (a := a) (p := BitVec.ofNat 8 (bankCode b) :: n :: m :: w :: h :: grid)
    exact ⟨fun outside => define_refused run opened held (system outside),
      fun inside outside => define_refused run opened held (effect inside outside)⟩
  · exact define_refused (exec_defineFeeders (p := [n, x, y, m]) b listens rfl) opened held
      (defineFeeders_cases.1 outside)
  · have run := exec_defineFeeders (p := [BitVec.ofNat 8 ws.val, x, y, m]) b listens rfl
    obtain ⟨-, fields⟩ := defineFeeders_cases (a := a)
      (p := [BitVec.ofNat 8 (bankCode b), BitVec.ofNat 8 ws.val, x, y, m])
    obtain ⟨fails, made⟩ := fields ws (byte ws (by decide))
    obtain ⟨-, primary, alternate, mode, entry⟩ := feederEntryOf_cases (x := x.toNat) (y := y.toNat) (m := m.toNat)
    have differ (h : y ≠ x) : y.toNat ≠ x.toNat := fun same => h (BitVec.eq_of_toNat_eq same)
    refine ⟨fun none_ => ?_, fun beyond => define_refused run opened held (fails _ (primary beyond)),
      fun low high wrong => define_refused run opened held (fails _ (alternate low high (wrong.imp id (congrArg _)))),
      fun low high fits other beyond =>
        define_refused run opened held (fails _ (mode low high fits (differ other) (feederModeOf_outside beyond))),
      fun f mode here fits other code => ⟨feederOf y.toNat, feederCode_feederOf fits, ?_⟩⟩
    · subst none_
      exact define_done run opened held (made none (feederEntryOf_cases (x := 0)).1)
    · exact define_done run opened held
        (made _ (entry f mode here fits (differ other) (by cases mode <;> rw [code] <;> rfl)))

end Sys2Proof.Proofs
end

section
/-! PROOF. READ LINE and FETCH LINE while FILLING (R164, R166). -/

namespace Sys2Proof.Proofs

open Sys2Proof.Machine

section Readback

variable {b : BankId} {l1 l0 : Byte} {s : State} {line : Nat}

theorem exec_readLine (b : BankId) (l1 l0 : Byte) (listens : s.listens .design = true) :
    let p := [BitVec.ofNat 8 (bankCode b), l1, l0]
    exec (.readLine .design p) s = .next (answer .design 0x4A (readLine p b s).2 (readLine p b s).1) :=
  congrArg Host.Outcome.next (transact_bank b 0x4A 3 3 [l1, l0] (readLine _) listens (Nat.le_refl 3) (Nat.le_refl 3)
    (by decide))

theorem exec_fetchLine (listens : s.listens .design = true) :
    exec (.fetchLine .design []) s = .next (answer .design 0x4B (fetchLine s).2 (fetchLine s).1) :=
  congrArg Host.Outcome.next (transact_own (p := []) listens (Nat.zero_le _) rfl (Nat.le_refl 0) (Nat.le_refl 0))

/-- The state in which a readback starts to fill (R164). -/
def readbackStarted (b : BankId) (line : Nat) (n : Fin 8) (s : State) : State :=
  { s with store.readback := .filling { bank := b, line := line, scheme := n, width := (s.article b).width } [] }

/-- READ LINE by its checks in their order (R164). -/
theorem readLine_cases (here : line = l1.toNat * 256 + l0.toNat) :
    let p := [BitVec.ofNat 8 (bankCode b), l1, l0]
    ((s.bank b).state = .empty → readLine p b s = (s, .refused .bankState .none)) ∧
      ((s.bank b).state ≠ .empty →
        ((s.article b).height ≤ line → readLine p b s = (s, .refused .range (.number 1))) ∧
        (line < (s.article b).height →
          (s.store.readback.isFilling = true ∨ s.store.queue ≠ [] → readLine p b s = (s, .busy)) ∧
          (s.store.readback.isFilling = false → s.store.queue = [] →
            ((s.article b).schemeNumber line = none → readLine p b s = (s, .refused .notLoaded .none)) ∧
            (∀ n, (s.article b).schemeNumber line = some n →
              readLine p b s = (grant (readbackStarted b line n s), .started))))) := by
  intro p
  have word : wordAt p 1 = line := here.symm
  unfold readLine
  rw [word]
  refine ⟨fun empty => if_pos empty, fun held => ?_⟩
  dsimp only
  rw [if_neg held]
  refine ⟨fun beyond => if_pos beyond, fun inside => ?_⟩
  rw [if_neg (Nat.not_le.mpr inside)]
  refine ⟨fun taken => ?_, fun still drained => ?_⟩
  · rcases taken with filling | queued
    · rw [if_pos filling]
      rfl
    · split <;> rfl
  · rw [if_neg (by simp [still]), if_neg (not_not_intro drained)]
    exact ⟨fun missing => by rw [missing]; rfl, fun n written => by rw [written]; rfl⟩

/-- A readback buffer that is FILLING has a line (R164). -/
theorem isFilling_cases (r : Readback) :
    (∀ job data, r = .filling job data → r.isFilling = true) ∧
      ((∀ job data, r ≠ .filling job data) → r.isFilling = false) := by
  cases r with
  | empty => exact ⟨nofun, fun _ => rfl⟩
  | filling job data => exact ⟨fun _ _ _ => rfl, fun other => absurd rfl (other job data)⟩
  | full job cells => exact ⟨nofun, fun _ => rfl⟩

end Readback

/-- Settles O49: the checks in their order, then the buffer and the port. -/
theorem readLineStartsReadback : Obligations.ReadLineStartsReadback := by
  unfold Obligations.ReadLineStartsReadback
  intro b l1 l0 line s listens here
  dsimp only
  rw [exec_readLine b l1 l0 listens]
  obtain ⟨empty, checks⟩ := readLine_cases (b := b) (s := s) here
  obtain ⟨fills, stands⟩ := isFilling_cases s.store.readback
  refine ⟨fun h => by rw [empty h], fun held beyond => by rw [(checks held).1 beyond], fun job data filling =>
    ⟨?_, fun held inside => by rw [((checks held).2 inside).1 (.inl (fills job data filling))]⟩,
    fun held inside queued => by rw [((checks held).2 inside).1 (.inr queued)], fun held inside other drained => ?_⟩
  · rw [exec_fetchLine listens]
    simp [fetchLine, filling, busy]
  · obtain ⟨notLoaded, started⟩ := ((checks held).2 inside).2 (stands other) drained
    refine ⟨fun missing => by rw [notLoaded missing], fun n written => ⟨_, by rw [started n written], ?_⟩⟩
    refine ⟨by simp [readbackStarted], fun free => grant_of_free _ free, fun x used => grant_of_used _ used, ?_⟩
    simp [readbackStarted, drained]

end Sys2Proof.Proofs
end

section
/-! PROOF. The resets and their end (R21, R51, R125, R143, R144, R169, R180, R198). -/

namespace Sys2Proof.Proofs

open Sys2Proof.Machine

section Reset

variable {s t : State} {ra rb : Bool}

/-- A reset that leaves a live table and a FIXED lock (R143, R144). -/
def resetWith (ra rb : Bool) (live : HarnessTable) (fixed : Bool) (s : State) : State :=
  { afterReset ra rb s with harness := { (afterReset ra rb s).harness with fixed := fixed, live := live } }

/-- Both resets by the lock that stands (R143, R144). -/
theorem exec_resets :
    exec (.resetPin ra rb) s =
        .next (resetWith ra rb (if s.harness.fixed then s.harness.live else .empty) s.harness.fixed s) ∧
      exec (.powerOnReset ra rb) s = .next (resetWith ra rb .empty false s) := by
  refine ⟨congrArg Host.Outcome.next ?_, rfl⟩
  unfold keepFixed
  cases fixed : s.harness.fixed <;> simp [resetWith, afterReset, HarnessUnit.reset]

/-- Both resets leave every block but the lock and the live table at one value. -/
theorem resetWith_of_exec (reset : exec (.resetPin ra rb) s = .next t ∨ exec (.powerOnReset ra rb) s = .next t) :
    ∃ live fixed, t = resetWith ra rb live fixed s := by
  obtain ⟨pin, power⟩ := exec_resets (s := s) (ra := ra) (rb := rb)
  rcases reset with run | run
  · exact ⟨_, _, (Host.Outcome.next.inj (run.symm.trans pin))⟩
  · exact ⟨_, _, (Host.Outcome.next.inj (run.symm.trans power))⟩

end Reset

/-- Settles O50: both resets by one state with the lock and the live table left open; their end by the links' selects. -/
theorem resetsAndTheirEnd : Obligations.ResetsAndTheirEnd := by
  unfold Obligations.ResetsAndTheirEnd
  intro ra rb s
  obtain ⟨pin, power⟩ := exec_resets (s := s) (ra := ra) (rb := rb)
  refine ⟨⟨_, pin, rfl, fun fixed => by simp [resetWith, fixed], fun free => ?_⟩, ⟨_, power, rfl, rfl, rfl, rfl⟩,
    fun t reset => ?_, fun a b x y => ?_⟩
  · rw [free]
    exact ⟨rfl, rfl, rfl⟩
  · obtain ⟨live, fixed, rfl⟩ := resetWith_of_exec reset
    have banks (k : BankId) : (resetWith ra rb live fixed s).bank k = { state := .empty, record := none, closeResult := .none } := by
      cases k <;> rfl
    have links (k : Link) : (resetWith ra rb live fixed s).link k =
        { phase := .idle, received := [], place := 0, flags := 0#16, enables := 0#16, attention := false,
          noteSlot := none, refusal := none, reply := none } := by
      cases k <;> rfl
    simp only [banks, links, implies_true, true_and]
    and_intros <;> rfl
  · have arm : exec (.resetEnd a b x y) s = execResetEnd a b x y s := rfl
    rw [arm, execResetEnd]
    exact ⟨fun applied => ⟨endReset a b x y s, by rw [if_pos applied], rfl, rfl, rfl, rfl, rfl, rfl, rfl, rfl⟩,
      fun awake => by rw [if_neg (by simp [awake])]⟩

end Sys2Proof.Proofs
end

section
/-! PROOF. The bytes of a transaction (R182–R187, R200). -/

namespace Sys2Proof.Proofs

open Sys2Proof.Machine

/-! ## Rows and command codes -/

section Codes

variable {k : Link} {c : Byte} {p : List Byte} {i : Instr}

/-- A code that names no command is read as an unknown one (R185). -/
theorem commandRow_unknown (unnamed : namesCommand c = false) : commandRow k c p = .unknownCommand k c p := by
  have away (n : Nat) (here : c.toNat = n) (named : namesCommand (BitVec.ofNat 8 n) = true) : False := by
    rw [← here, BitVec.ofNat_toNat, BitVec.setWidth_eq, unnamed] at named
    cases named
  unfold commandRow
  split
  case h_51 => rfl
  all_goals exact (away _ (by assumption) rfl).elim

/-- The code of a row's command is read as the row (R200). -/
theorem commandRow_codeOf (formed : i.wellFormed = true) (named : i.codeOf = some (k, c)) : commandRow k c i.params = i := by
  rcases offered_or_unknown named with ⟨o, lo, hi, offered⟩ | ⟨p, rfl⟩
  · cases i <;> cases offered <;> cases named <;> rfl
  · exact commandRow_unknown (wellFormed_unknown formed).1

/-- Every command read from its code is well formed (R185). -/
theorem commandRow_wellFormed (fits : p.length ≤ maxParams) : (commandRow k c p).wellFormed = true := by
  cases unnamed : namesCommand c with
  | false =>
    rw [commandRow_unknown unnamed]
    simp [Instr.wellFormed, Instr.params, fits, unnamed]
  | true =>
    unfold commandRow
    split
    case h_51 =>
      simp only [namesCommand, Bool.or_eq_true, Bool.and_eq_true, decide_eq_true_eq] at unnamed
      simp only [imp_false] at *
      omega
    all_goals simp [Instr.wellFormed, Instr.params, fits]

end Codes

/-! ## The bytes of a row -/

section Bytes

variable {k : Link} {c : Byte} {i : Instr} {bytes rest : List Byte} {n : Nat}

/-- The bytes of a command: its code, the length of its parameters and the parameters (R199, R200). -/
def commandBytes (c : Byte) (p : List Byte) : List Byte :=
  c :: BitVec.ofNat 8 (p.length / 256) :: BitVec.ofNat 8 p.length :: p

/-- A row with a command code is sent as its command (R200). -/
theorem encodeTransaction_of_codeOf (named : i.codeOf = some (k, c)) :
    encodeTransaction i = some (k, commandBytes c i.params) := by
  cases i <;> cases named <;> rfl

/-- The rows that a transaction presents: a command, an over-long length, an early release (R182, R186, R187). -/
theorem encodeTransaction_cases (sent : encodeTransaction i = some (k, bytes)) :
    (∃ c n, i = .overLongLength k c n ∧ bytes = [c, n.extractLsb' 8 8, n.extractLsb' 0 8]) ∨
      (i = .selectReleasedEarly k ∧ bytes = []) ∨ (∃ c, i.codeOf = some (k, c) ∧ bytes = commandBytes c i.params) := by
  cases i
  case overLongLength =>
    cases sent
    exact .inl ⟨_, _, rfl, rfl⟩
  case selectReleasedEarly =>
    cases sent
    exact .inr (.inl ⟨rfl, rfl⟩)
  all_goals cases sent <;> exact .inr (.inr ⟨_, rfl, rfl⟩)

/-- The two bytes of a length give it back (R199). -/
theorem lengthBytes (fits : n ≤ maxParams) :
    (BitVec.ofNat 8 (n / 256)).toNat * 256 + (BitVec.ofNat 8 n).toNat = n := by
  rw [BitVec.toNat_ofNat, BitVec.toNat_ofNat]
  unfold maxParams at fits
  omega

/-- The two bytes of a sixteen-bit length give it back (R199). -/
theorem extractBytes (n : BitVec 16) : (n.extractLsb' 8 8).toNat * 256 + (n.extractLsb' 0 8).toNat = n.toNat := by
  have small := n.isLt
  simp only [BitVec.extractLsb'_toNat, Nat.shiftRight_eq_div_pow]
  omega

/-- The number of two length bytes (R199). -/
theorem append_toNat (hi lo : Byte) : (hi ++ lo).toNat = hi.toNat * 256 + lo.toNat := by
  rw [BitVec.toNat_append, ← Nat.shiftLeft_add_eq_or_of_lt lo.isLt, Nat.shiftLeft_eq]

/-- The row of a command's bytes as far as they have come (R182, R187). -/
theorem presentedRow_command (fits : n ≤ maxParams) :
    presentedRow k (c :: BitVec.ofNat 8 (n / 256) :: BitVec.ofNat 8 n :: rest) =
      if n ≤ rest.length then some (commandRow k c (rest.take n)) else none := by
  simp only [presentedRow, transactionRow, lengthBytes fits, Nat.not_lt.mpr fits, false_or, if_false]
  split
  next whole => rw [if_neg (Nat.not_lt.mpr whole)]
  · rfl

/-- Fewer than three bytes present no row (R182). -/
theorem presentedRow_short (short : bytes.length < 3) : presentedRow k bytes = none := by
  match bytes, short with
  | [], _ => rfl
  | [_], _ => rfl
  | [_, _], _ => rfl

/-- The bytes of an over-long length present it (R186). -/
theorem overLong_row (hi lo : Byte) (above : maxParams < hi.toNat * 256 + lo.toNat) :
    transactionRow k [c, hi, lo] = .overLongLength k c (hi ++ lo) ∧
      presentedRow k [c, hi, lo] = some (.overLongLength k c (hi ++ lo)) := by
  have row : transactionRow k [c, hi, lo] = .overLongLength k c (hi ++ lo) := if_pos above
  refine ⟨row, ?_⟩
  rw [presentedRow, if_pos (.inl above), row]

/-- The bytes sent for a row present it with the last one and no sooner (R182, R186, R200). -/
theorem encodeTransaction_presents (formed : i.wellFormed = true) (sent : encodeTransaction i = some (k, bytes)) :
    transactionRow k bytes = i ∧
      (i ≠ .selectReleasedEarly k → presentedRow k bytes = some i ∧ ∀ n, n < bytes.length → presentedRow k (bytes.take n) = none) := by
  rcases encodeTransaction_cases sent with ⟨c, n, rfl, rfl⟩ | ⟨rfl, rfl⟩ | ⟨c, named, rfl⟩
  · have above : maxParams < n.toNat := by
      simp only [Instr.wellFormed, Bool.and_eq_true, decide_eq_true_eq] at formed
      exact formed.2
    have whole : n.extractLsb' 8 8 ++ n.extractLsb' 0 8 = n :=
      BitVec.eq_of_toNat_eq ((append_toNat _ _).trans (extractBytes n))
    obtain ⟨row, presented⟩ := overLong_row (k := k) (c := c) (n.extractLsb' 8 8) (n.extractLsb' 0 8)
      (by rw [extractBytes]; exact above)
    rw [whole] at row presented
    refine ⟨row, fun _ => ⟨presented, fun m below => presentedRow_short ?_⟩⟩
    simp only [List.length_cons, List.length_nil] at below
    rw [List.length_take]
    omega
  · exact ⟨rfl, fun other => absurd rfl other⟩
  · have fits := wellFormed_params formed
    have presented : presentedRow k (commandBytes c i.params) = some i := by
      rw [commandBytes, presentedRow_command fits, if_pos (Nat.le_refl _), List.take_length, commandRow_codeOf formed named]
    refine ⟨?_, fun _ => ⟨presented, fun n below => ?_⟩⟩
    · rw [commandBytes, transactionRow, lengthBytes fits, if_neg (Nat.not_lt.mpr fits), if_neg (Nat.lt_irrefl _),
        List.take_length, commandRow_codeOf formed named]
    · match n, below with
      | 0, _ => rfl
      | 1, _ => rfl
      | 2, _ => rfl
      | m + 3, below =>
        have missing : ¬ i.params.length ≤ (i.params.take m).length := by
          simp only [commandBytes, List.length_cons] at below
          rw [List.length_take]
          omega
        exact (presentedRow_command fits).trans (if_neg missing)

/-- Every transaction presents a well-formed row (R182, R186, R187). -/
theorem transactionRow_wellFormed (k : Link) (bytes : List Byte) : (transactionRow k bytes).wellFormed = true := by
  unfold transactionRow
  split
  next c hi lo rest =>
    dsimp only
    split
    next above => simp [Instr.wellFormed, Instr.params, append_toNat, above]
    next within =>
      split
      · rfl
      · exact commandRow_wellFormed ((List.length_take_le _ _).trans (Nat.le_of_not_lt within))
  · rfl

end Bytes

/-! ## Byte by byte -/

section Wires

variable {k : Link} {s : State}

/-- Select puts an idle link in the command phase with no byte received (R182). -/
theorem takeWire_select (awake : s.inReset = false) (idle : (s.link k).phase = .idle) :
    takeWire (.select k) s = .next (s.receiving k []) := by
  simp [takeWire, assertSelect, awake, LinkState.select, idle, LinkState.idle, State.receiving]

/-- Bytes that present no row yet are only gathered (R182). -/
theorem takeWires_gather (awake : s.inReset = false) (more before : List Byte)
    (none_ : ∀ n, 0 < n → n ≤ more.length → presentedRow k (before ++ more.take n) = none) :
    takeWires (more.map (.clock k)) (s.receiving k before) = .next (s.receiving k (before ++ more)) := by
  induction more generalizing before with
  | nil => simp [takeWires]
  | cons b more ih =>
    have first : takeWire (.clock k b) (s.receiving k before) = .next (s.receiving k (before ++ [b])) :=
      takeWire_receives awake (none_ 1 (by decide) (by simp))
    have rest := ih (before ++ [b]) fun n positive within => by
      have later := none_ (n + 1) (by omega) (by simpa using within)
      rwa [List.take_succ_cons, List.append_cons] at later
    rw [List.map_cons, takeWires, first]
    simpa using rest

end Wires

/-- Settles O51: rows by their codes, then the bytes on the lines one at a time. -/
theorem transactionBytesRoundTrip : Obligations.TransactionBytesRoundTrip := by
  unfold Obligations.TransactionBytesRoundTrip
  refine ⟨fun i k bytes formed sent => encodeTransaction_presents formed sent, transactionRow_wellFormed, fun i row => ?_,
    fun i k front last s formed sent awake idle => ?_, fun k bytes s => ?_, fun k b s awake past => ?_, fun k b s reset => ?_,
    fun s w rest pending wires => ?_⟩
  · rcases row with named | ⟨k, c, n, rfl⟩ | ⟨k, rfl⟩
    · obtain ⟨⟨k, c⟩, code⟩ := Option.isSome_iff_exists.mp named
      rw [encodeTransaction_of_codeOf code]
      rfl
    · rfl
    · rfl
  · have other : i ≠ .selectReleasedEarly k := by
      rintro rfl
      exact absurd (congrArg Prod.snd (Option.some.inj sent)).symm (by simp)
    obtain ⟨presented, earlier⟩ := (encodeTransaction_presents formed sent).2 other
    refine ⟨?_, takeWire_completes awake presented⟩
    rw [takeWires, takeWire_select awake idle]
    refine takeWires_gather awake front [] fun n _ within => ?_
    have prefix_ := earlier n (by simp; omega)
    rwa [List.take_append_of_le_length within] at prefix_
  · refine ⟨by simp [LinkState.sends, LinkState.dataOut], fun awake => by simp [State.listens, awake, Phase.takes], ?_⟩
    simp [takeWire, releaseSelect]
  · exact ⟨by simp [takeWire, clockByte, awake, past], by simp [takeWire, releaseSelect, past]⟩
  · exact ⟨by simp [takeWire, assertSelect, reset], by simp [takeWire, clockByte, reset]⟩
  · simp [step, pending, wires]

end Sys2Proof.Proofs
end

section
/-! PROOF. The lift of every kind of hook, the staged selection and the float guard's test (R54–R60, R64–R69, R75–R78). -/

namespace Sys2Proof.Proofs

open Sys2Proof.Machine

/-! ## Columns and sections -/

section Columns

variable {c0 w k : Nat}

/-- POINT runs up and back (R59). -/
theorem figureColumn_point (wide : 2 ≤ w) : figureColumn c0 w .point k =
    if k % (2 * w - 2) < w then c0 + k % (2 * w - 2) else c0 + (2 * w - 2 - k % (2 * w - 2)) :=
  if_neg (Nat.not_lt.mpr wide)

/-- The column lies in c0..c0+w−1 (R60). -/
theorem figureColumn_range (m : SectionMode) (some_ : 1 ≤ w) :
    c0 ≤ figureColumn c0 w m k ∧ figureColumn c0 w m k < c0 + w := by
  have within := Nat.mod_lt k some_
  cases m with
  | straight => exact ⟨Nat.le_add_right _ _, Nat.add_lt_add_left within _⟩
  | point =>
    by_cases narrow : w < 2
    · have column : figureColumn c0 w .point k = c0 + k % w := if_pos narrow
      omega
    · have below : k % (2 * w - 2) < 2 * w - 2 := Nat.mod_lt _ (by omega)
      rw [figureColumn_point (by omega)]
      split <;> omega

end Columns

section Sections

variable {t : HarnessTable} {h : Nat} {x : Section} {i : Fin 16}

/-- In a table whose sections hold together the section that holds a hook is the hook's section (R55, R128). -/
theorem sectionAt_of_sound (sound : t.Sound) (used : t.sections[i] = some x) (from_ : x.first ≤ h)
    (below : h < x.first + x.count) : t.sectionAt h = some x := by
  refine findSome?_finRange_eq_some (i := i) ?_ fun j before => ?_
  · have holds : x.holds h = true := by simp [Section.holds, from_, below]
    simp only [used, holds, if_true]
  · cases other : t.sections[j] with
    | none => rfl
    | some y =>
      have apart := (sound i x used).2.1 j before y other
      have free : y.holds h = false := by
        simp only [Section.holds, Bool.and_eq_false_iff, decide_eq_false_iff_not]
        omega
      simp only [free, Bool.false_eq_true, if_false]

/-- A hook that no used section holds has no section (R55). -/
theorem sectionAt_of_free (free : ∀ (i : Fin 16) (x : Section), t.sections[i] = some x → h < x.first ∨ x.first + x.count ≤ h) :
    t.sectionAt h = none := by
  refine List.findSome?_eq_none_iff.mpr fun i _ => ?_
  cases used : t.sections[i] with
  | none => rfl
  | some x =>
    have apart := free i x used
    have out : x.holds h = false := by
      simp only [Section.holds, Bool.and_eq_false_iff, decide_eq_false_iff_not]
      omega
    simp only [out, Bool.false_eq_true, if_false]

end Sections

/-! ## Lifts -/

section Lifts

variable {t : HarnessTable} {a : Article} {cells : List Byte} {d : Descriptor} {v : GuardView} {h : Nat} {x : Section}

/-- The computed lift of a FIGURE hook (R58–R65). -/
theorem computedLift_figure {c0 w : Nat} {m : SectionMode} (here : t.sectionAt h = some x)
    (kind : x.kind = .figure c0 w m) :
    computedLift t a cells d h = figureLift a cells d.position c0 w m (h - x.first) := by
  simp only [computedLift, here, kind]

/-- A lift after face is the bit, inverted for DOWN (R65). -/
theorem afterFace_eq (f : Face) (b : Bool) : afterFace f b = (b ^^ f == .down) := by cases f <;> cases b <;> rfl

/-- The computed lifts of a hook of no section, a DEAD and a SELVAGE hook (R55, R57, R66). -/
theorem computedLift_others :
    (t.sectionAt h = none → computedLift t a cells d h = false) ∧
      (∀ x, t.sectionAt h = some x → x.kind = .dead → computedLift t a cells d h = false) ∧
      (∀ x j g, t.sectionAt h = some x → x.kind = .selvage j → t.selvages[j] = some g →
        computedLift t a cells d h = g.bit (d.pickValue % g.height) ((h - x.first) % g.width)) :=
  ⟨fun none_ => by simp only [computedLift, none_], fun x here kind => by simp only [computedLift, here, kind],
    fun x j g here kind weave => by simp only [computedLift, here, kind, selvageLift, weave]⟩

/-- The guard's comparison says what R76 calls at limit. -/
theorem atLimit_iff (b : Bool) : atLimit v h b = true ↔ v.AtLimit h b := by
  cases b <;> simp [atLimit, GuardSettings.limit, committedAt, senseOf, and_assoc]

/-- The hooks that the guard finds at limit (R75, R76). -/
theorem foundAtLimit_iff : foundAtLimit t a cells d v h = true ↔
    (d.kind = .forward ∧ d.level = false ∧ v.settings.mode ≠ .off ∧ t.FigureHook h) ∧
      v.AtLimit h (computedLift t a cells d h) := by
  rw [foundAtLimit, Bool.and_eq_true, atLimit_iff, guardTests]
  simp only [Bool.and_eq_true, beq_iff_eq, Bool.not_eq_true', bne_iff_ne, isFigure_iff, and_assoc]

/-- A delivered lift without LEVEL (R67, R76–R78). -/
theorem deliveredLift_eq (plain : d.level = false) : deliveredLift t a cells d v h =
    if v.settings.mode = .bind ∧ foundAtLimit t a cells d v h = true then !computedLift t a cells d h
    else computedLift t a cells d h := by
  simp [deliveredLift, plain]

/-- What the guard leaves as computed, and what BIND inverts (R75–R77). -/
theorem deliveredLift_guarded (plain : d.level = false) :
    (d.kind ≠ .forward ∨ v.settings.mode ≠ .bind ∨ ¬ t.FigureHook h →
        deliveredLift t a cells d v h = computedLift t a cells d h) ∧
      (d.kind = .forward → v.settings.mode = .bind → t.FigureHook h →
        (v.AtLimit h (computedLift t a cells d h) → deliveredLift t a cells d v h = !computedLift t a cells d h) ∧
        (¬ v.AtLimit h (computedLift t a cells d h) → deliveredLift t a cells d v h = computedLift t a cells d h)) := by
  rw [deliveredLift_eq plain]
  refine ⟨fun untested => if_neg ?_, fun forward bind figure => ⟨fun limit => if_pos ?_, fun free => if_neg ?_⟩⟩
  · rintro ⟨bind, found⟩
    obtain ⟨⟨forward, -, -, figure⟩, -⟩ := foundAtLimit_iff.mp found
    exact untested.elim (absurd forward) (Or.rec (absurd bind) (absurd figure))
  · exact ⟨bind, foundAtLimit_iff.mpr ⟨⟨forward, plain, by rw [bind]; decide, figure⟩, limit⟩⟩
  · exact fun h => free (foundAtLimit_iff.mp h.2).2

/-- The bind count counts the hooks that BIND inverts (R77). -/
theorem bindCount_cases :
    (d.level = true ∨ d.kind ≠ .forward ∨ v.settings.mode ≠ .bind → bindCount t a cells d v = 0) ∧
      (d.level = false → d.kind = .forward → v.settings.mode = .bind → ∃ bound : List Nat, bound.Nodup ∧
        (∀ h, h ∈ bound ↔ h < t.hooks ∧ t.FigureHook h ∧ v.AtLimit h (computedLift t a cells d h)) ∧
        bindCount t a cells d v = bound.length) := by
  refine ⟨fun untested => ?_, fun plain forward bind =>
    ⟨(List.range t.hooks).filter (foundAtLimit t a cells d v), List.nodup_range.filter _, fun h => ?_, ?_⟩⟩
  · unfold bindCount
    split
    next bind =>
      rw [List.countP_eq_zero]
      rintro h - found
      obtain ⟨⟨forward, plain, -, -⟩, -⟩ := foundAtLimit_iff.mp found
      have mode : v.settings.mode = .bind := by simpa using bind
      exact untested.elim (fun level => by simp [plain] at level) (Or.rec (absurd forward) (absurd mode))
    · rfl
  · simp [foundAtLimit_iff, forward, plain, bind]
  · simp [bindCount, bind, List.countP_eq_length_filter]

/-- The FLOAT VIOLATION mark (R78). -/
theorem violates_iff : violates t a cells d v = true ↔ d.level = false ∧ d.kind = .forward ∧ v.settings.mode = .stop ∧
    ∃ h, h < t.hooks ∧ t.FigureHook h ∧ v.AtLimit h (computedLift t a cells d h) := by
  simp only [violates, Bool.and_eq_true, beq_iff_eq, List.any_eq_true, List.mem_range, foundAtLimit_iff]
  constructor
  · rintro ⟨stop, h, within, ⟨forward, plain, -, figure⟩, limit⟩
    exact ⟨plain, forward, stop, h, within, figure, limit⟩
  · rintro ⟨plain, forward, stop, h, within, figure, limit⟩
    exact ⟨stop, h, within, ⟨forward, plain, by rw [stop]; decide, figure⟩, limit⟩

end Lifts

/-! ## The hooks of the chains -/

section Chains

variable {t : HarnessTable} {sel : Selection} {h : Nat}

/-- The hook at position 0 of a chain comes after those of the chains before it (R54). -/
theorem chainBase_eq (c : Nat) : t.chainBase c = ((t.chains.toList.take c).map (·.length)).sum := by
  rw [HarnessTable.chainBase, HarnessTable.lengths, List.map_take]

/-- The next chain begins where a chain ends (R54). -/
theorem chainBase_succ (c : Fin 8) : t.chainBase (c.val + 1) = t.chainBase c.val + (t.chains[c]).length := by
  have within : c.val < t.lengths.length := by simp [HarnessTable.lengths]
  rw [HarnessTable.chainBase, HarnessTable.chainBase, List.take_succ_eq_append_getElem within, List.sum_append]
  simp [HarnessTable.lengths]

/-- Chains lie in chain order (R54). -/
theorem chainBase_mono {c c' : Nat} (le : c ≤ c') : t.chainBase c ≤ t.chainBase c' := by
  have more : t.chainBase c' = t.chainBase c + ((t.lengths.drop c).take (c' - c)).sum := by
    rw [HarnessTable.chainBase, HarnessTable.chainBase, ← List.sum_append, ← List.take_add, Nat.add_sub_cancel' le]
  omega

/-- The last chain ends at the hook count (R54, R127). -/
theorem chainBase_le_hooks (c : Nat) : t.chainBase c ≤ t.hooks := by
  have whole : t.hooks = t.chainBase (max c 8) := by
    rw [HarnessTable.chainBase, List.take_of_length_le (by simp [HarnessTable.lengths])]
    rfl
  rw [whole]
  exact chainBase_mono (Nat.le_max_left _ _)

/-- The chain and position of a hook (R54). -/
theorem locate_of_position (c : Fin 8) {j : Nat} (within : j < (t.chains[c]).length) :
    t.locate (t.chainBase c.val + j) = some (c, j) := by
  have found : (List.finRange 8).find? (fun (c' : Fin 8) => decide (t.chainBase c' ≤ t.chainBase c.val + j) &&
      decide (t.chainBase c.val + j < t.chainBase c' + (t.chains[c']).length)) = some c := by
    refine find?_finRange_eq_some_iff.mpr ⟨by simpa using within, fun c' before => ?_⟩
    have next : t.chainBase (c'.val + 1) ≤ t.chainBase c.val := chainBase_mono before
    rw [chainBase_succ] at next
    simp only [Bool.and_eq_false_iff, decide_eq_false_iff_not]
    omega
  rw [HarnessTable.locate, found]
  simp

/-- A hook beyond the hook count is at no chain (R54, R127). -/
theorem locate_beyond (beyond : t.hooks ≤ h) : t.locate h = none := by
  rw [HarnessTable.locate, Option.map_eq_none_iff, List.find?_eq_none]
  intro c _
  have end_ := chainBase_le_hooks (t := t) (c.val + 1)
  rw [chainBase_succ] at end_
  simp only [Bool.and_eq_true, decide_eq_true_eq]
  omega

/-- The lift that a selection holds at a position of a chain (R118). -/
theorem hookLift_of_position (c : Fin 8) {j : Nat} (within : j < (t.chains[c]).length) :
    hookLift sel t (t.chainBase c.val + j) = ((sel[c]).getD []).getD j false := by
  rw [hookLift, locate_of_position c within]
  cases held : sel[c] <;> simp [held]

/-- The lifts of a selection laid out along the chains (R54, R111, log 33). -/
theorem selectionOf_chain (lift : Nat → Bool) (c : Fin 8) :
    ∃ l, (selectionOf t lift)[c] = some l ∧ l.length = (t.chains[c]).length ∧
      ∀ j, j < l.length → l.getD j false = lift (t.chainBase c.val + j) := by
  refine ⟨(List.range (t.chains[c]).length).map fun j => lift (t.chainBase c.val + j), by simp [selectionOf], by simp,
    fun j below => ?_⟩
  have within : j < (t.chains[c.val]).length := by simpa using below
  simp [List.getD_eq_getElem?_getD, within]

end Chains

/-- Settles O59: columns, sections, lifts, guard and selection, each by its own lemma. -/
theorem figureHooksReadTheirColumns : Obligations.FigureHooksReadTheirColumns := by
  unfold Obligations.FigureHooksReadTheirColumns
  refine ⟨fun _ _ _ _ => rfl, fun c0 k => ?_, fun c0 w k wide => figureColumn_point wide,
    fun c0 w k m some_ => figureColumn_range m some_, fun t width => (fits_iff t width).trans ⟨?_, ?_⟩, ?_,
    fun t h => ⟨fun sound i x used from_ below => sectionAt_of_sound sound used from_ below, sectionAt_of_free⟩,
    fun t a cells d v h => ?_, fun t a cells d v => ⟨bindCount_cases.1, bindCount_cases.2, violates_iff⟩,
    fun t lift c => ?_, fun t sel h => ⟨rfl, fun beyond => ?_⟩⟩
  · have column : figureColumn c0 1 .point k = c0 + k % 1 := rfl
    rw [column, Nat.mod_one, Nat.add_zero]
  · exact fun narrow i x c0 w m used kind => narrow i x used width c0 w m rfl kind
  · rintro below i x used _ c0 w m ⟨⟩ kind
    exact below i x c0 w m used kind
  · rintro t a cells d h c0 w _ m x g _ he here kind rfl rfl weave
    rw [computedLift_figure here kind, figureLift, afterFace_eq, weaveBit, effectCode, indexOf_eq_some he]
    simp only [weave]
  · obtain ⟨free, dead, selvage⟩ := computedLift_others (t := t) (a := a) (cells := cells) (d := d) (h := h)
    exact ⟨free, dead, selvage, fun level => if_pos level, fun plain => (deliveredLift_guarded plain).1,
      fun plain => (deliveredLift_guarded plain).2⟩
  · rw [← chainBase_eq]
    exact ⟨selectionOf_chain lift c, fun sel j within => hookLift_of_position c within⟩
  · rw [hookLift, locate_beyond beyond]

end Sys2Proof.Proofs
end

section
/-! PROOF. The STATUS block (R197, R203): its eight parts, where each byte lies, and the command. -/

namespace Sys2Proof.Proofs

open Sys2Proof.Machine

section StatusParts

variable {k : Link} {s : State}

/-! ## The lengths of the parts -/

/-- Bytes 10–15. -/
theorem statusPosition_length : (statusPosition s).length = 6 := by
  unfold statusPosition
  split <;> rfl

/-- Bytes 9–27. -/
theorem statusPick_length : (statusPick s).length = 19 := by
  simp only [statusPick, u8, u32, List.length_append, statusPosition_length, List.length_cons, List.length_nil]

/-- Bytes 28–38. -/
theorem statusFrame_length : (statusFrame s).length = 11 := by
  unfold statusFrame
  split <;> rfl

/-- Bytes 67–70. -/
theorem statusDetail_length (d : Detail) : (statusDetail s d).length = 4 := by
  cases d <;> rfl

/-- Bytes 64–70. -/
theorem statusRefusal_length : (statusRefusal k s).length = 7 := by
  unfold statusRefusal
  split <;> simp only [u8, unstated, List.length_append, statusDetail_length, List.length_cons, List.length_nil]

/-- The eight parts in front of one another: the bytes before each. -/
theorem statusBytes_getD (n : Nat) : (statusBytes k s).getD n 0#8 =
    if n < 9 then (statusShaft s).getD n 0#8
    else if n < 28 then (statusPick s).getD (n - 9) 0#8
    else if n < 39 then (statusFrame s).getD (n - 28) 0#8
    else if n < 45 then (statusWeft s).getD (n - 39) 0#8
    else if n < 60 then (statusHarness s).getD (n - 45) 0#8
    else if n < 64 then (statusStore s).getD (n - 60) 0#8
    else if n < 71 then (statusRefusal k s).getD (n - 64) 0#8
    else (statusLink k s).getD (n - 71) 0#8 := by
  have shaft : (statusShaft s).length = 9 := rfl
  have weft : (statusWeft s).length = 6 := rfl
  have harness : (statusHarness s).length = 15 := rfl
  have store : (statusStore s).length = 4 := rfl
  simp only [statusBytes, List.getD_eq_getElem?_getD, List.getElem?_append, List.length_append, shaft,
    statusPick_length, statusFrame_length, weft, harness, store, statusRefusal_length]
  grind

/-- The length of the block (R203). -/
theorem statusBytes_length : (statusBytes k s).length = 77 := by
  simp only [statusBytes, List.length_append, statusPick_length, statusFrame_length, statusRefusal_length]
  rfl

/-! ## The bytes of the parts whose shape depends on what is held -/

/-- The weaving bank with no position (R199, log 30). -/
theorem statusPick_bank (absent : s.pick.position = none) : (statusPick s).getD 1 0#8 = 0xFF#8 := by
  simp only [statusPick, statusPosition, absent]
  rfl

/-- The pick engine's bytes after the position: counter, fault flag and stop request. -/
theorem statusPick_rest :
    (statusPick s).getD 8 0#8 = BitVec.ofNat 8 (s.pick.counter / 16777216) ∧
    (statusPick s).getD 11 0#8 = BitVec.ofNat 8 s.pick.counter ∧
    (statusPick s).getD 16 0#8 = BitVec.ofNat 8 (flag s.pick.fault.isSome) ∧
    (statusPick s).getD 18 0#8 = BitVec.ofNat 8 (flag s.pick.stopRequest) := by
  unfold statusPick statusPosition
  cases s.pick.position <;> exact ⟨rfl, rfl, rfl, rfl⟩

/-- The pending frame's bytes 30–35 with the slot EMPTY. -/
theorem statusBytes_emptySlot (empty : s.frame.slot = .empty) :
    ((statusBytes k s).drop 30).take 6 = [0xFF#8, 0, 0, 0, 0, 0] := by
  have before : (statusShaft s ++ statusPick s).length = 28 := by
    rw [List.length_append, statusPick_length]
    rfl
  simp only [statusBytes, List.append_assoc]
  rw [← List.append_assoc (statusShaft s), show (30 : Nat) = 28 + 2 from rfl, ← before, List.drop_length_add_append,
    statusFrame, empty]
  rfl

/-- The flag that a refusal is held. -/
theorem statusRefusal_held : (statusRefusal k s).getD 0 0#8 = BitVec.ofNat 8 (flag (s.link k).refusal.isSome) := by
  unfold statusRefusal
  cases (s.link k).refusal <;> rfl

/-- The event flags of the link, most significant byte before (R199). -/
theorem statusLink_flags : (statusLink k s).getD 0 0#8 = (s.link k).flags.extractLsb' 8 8 ∧
    (statusLink k s).getD 1 0#8 = (s.link k).flags.extractLsb' 0 8 := by
  rw [statusLink, u16_toNat]
  exact ⟨rfl, rfl⟩

/-- STATUS on a link that listens (R197). -/
theorem exec_status (listens : s.listens k = true) :
    exec (.status k []) s = .next (answer k 0x01 (.done (statusBytes k s)) (drawFree s)) :=
  congrArg Host.Outcome.next
    (transact_both_bare k s 0x01 (fun s => (drawFree s, .done (statusBytes k s))) listens)

end StatusParts

/-- Settles O24: the command, then each byte by the part it lies in. -/
theorem statusBlock : Obligations.StatusBlock := by
  unfold Obligations.StatusBlock
  intro k s listens
  obtain ⟨counterHigh, counterLow, fault, stop⟩ := statusPick_rest (s := s)
  obtain ⟨flagsHigh, flagsLow⟩ := statusLink_flags (k := k) (s := s)
  refine ⟨exec_status listens, statusBytes_length, ?_⟩
  simp only [statusBytes_getD]
  exact ⟨rfl, rfl, rfl, rfl, rfl, statusPick_bank, counterHigh, counterLow, fault, stop, rfl,
    statusBytes_emptySlot, rfl, rfl, rfl, rfl, statusRefusal_held, flagsHigh, flagsLow, rfl⟩

end Sys2Proof.Proofs
end

section
/-! PROOF. Sets of items as numbers (R204) and the read commands (R50, R118, R142, R166, R167, R175). -/

namespace Sys2Proof.Proofs

open Sys2Proof.Machine

/-! ## A set of items as a number: item n is bit n (R204) -/

section Sets

/-- Item n of a set at weight 2^n. -/
theorem testBit_setNumber (l : List Bool) (n : Nat) : (setNumber l).testBit n = l.getD n false := by
  induction l generalizing n with
  | nil => exact Nat.zero_testBit n
  | cons b l ih =>
    have step : setNumber (b :: l) = flag b + 2 * setNumber l := rfl
    cases n with
    | zero => cases b <;> simp [step, flag, Nat.testBit_zero]
    | succ n =>
      have half : (flag b + 2 * setNumber l) / 2 = setNumber l := by cases b <;> simp only [flag] <;> grind
      rw [step, Nat.testBit_succ, half, ih, List.getD_cons_succ]

/-- Bit i of the byte that holds a set. -/
theorem getLsbD_setByte (l : List Bool) {i : Nat} (low : i < 8) :
    (BitVec.ofNat 8 (setNumber l)).getLsbD i = l.getD i false := by
  rw [BitVec.getLsbD_ofNat, testBit_setNumber, decide_eq_true low, Bool.true_and]

/-- Bit n of a four-byte field: in its byte 3 − n / 8, at n mod 8 (R199). -/
theorem getLsbD_u32 (x : Nat) {n : Nat} (low : n < 32) :
    ((u32 x).getD (3 - n / 8) 0#8).getLsbD (n % 8) = x.testBit n := by
  have bit (j : Nat) : (BitVec.ofNat 8 (x / 2 ^ (8 * j))).getLsbD (n % 8) = x.testBit (8 * j + n % 8) := by
    rw [BitVec.getLsbD_ofNat, Nat.testBit_div_two_pow, decide_eq_true (Nat.mod_lt n (by decide)), Bool.true_and,
      Nat.add_comm]
  have here : (u32 x).getD (3 - n / 8) 0#8 = BitVec.ofNat 8 (x / 2 ^ (8 * (n / 8))) := by
    have : n / 8 < 4 := by omega
    interval_cases n / 8 <;> simp [u32]
  rw [here, bit, Nat.div_add_mod]

/-- Item j of block i, where every item of a list gives a block of m. -/
theorem getElem?_flatMap_blocks {α β : Type} (f : α → List β) {m j : Nat} (block : ∀ a, (f a).length = m) (within : j < m)
    (l : List α) (i : Nat) : (l.flatMap f)[m * i + j]? = l[i]?.bind fun a => (f a)[j]? := by
  induction l generalizing i with
  | nil => rfl
  | cons a l ih =>
    rw [List.flatMap_cons]
    cases i with
    | zero =>
      rw [Nat.mul_zero, Nat.zero_add, List.getElem?_append_left (by rw [block]; exact within)]
      rfl
    | succ i =>
      rw [List.getElem?_append_right (by rw [block]; grind), block, show m * (i + 1) + j - m = m * i + j by grind, ih]
      rfl

end Sets

/-! ## READ HISTORY (R50, R202) -/

section History

variable {k : Link} {s : State}

/-- A record takes 16 bytes. -/
theorem historyBytes_length (r : HistoryRecord) : (historyBytes r).length = 16 := rfl

/-- The layout of a record (R202). -/
theorem historyBytes_eq (r : HistoryRecord) : historyBytes r =
    [BitVec.ofNat 8 r.kind.code, BitVec.ofNat 8 (r.counter / 16777216), BitVec.ofNat 8 (r.counter / 65536),
      BitVec.ofNat 8 (r.counter / 256), BitVec.ofNat 8 r.counter, BitVec.ofNat 8 (bankCode r.position.bank),
      BitVec.ofNat 8 (r.position.line / 256), BitVec.ofNat 8 r.position.line, BitVec.ofNat 8 r.position.step,
      BitVec.ofNat 8 (r.position.rep / 256), BitVec.ofNat 8 r.position.rep, BitVec.ofNat 8 r.system.val,
      BitVec.ofNat 8 (feederCode r.feeder),
      BitVec.ofNat 8 ((if r.substituted then 1 else 0) + (if r.swapFlag then 2 else 0)),
      BitVec.ofNat 8 (r.bindCount / 256), BitVec.ofNat 8 r.bindCount] := by
  have marks : setNumber [r.substituted, r.swapFlag] = (if r.substituted then 1 else 0) + (if r.swapFlag then 2 else 0) := by
    cases r.substituted <;> cases r.swapFlag <;> rfl
  rw [← marks]
  rfl

/-- The count byte and 16 bytes for each record. -/
theorem readHistoryBytes_length : (readHistoryBytes s).length = 1 + 16 * s.pick.history.length := by
  simp [readHistoryBytes, u8, List.length_flatMap, historyBytes_length]
  omega

/-- The newest record follows the count. -/
theorem readHistoryBytes_newest {r : HistoryRecord} {rest : List HistoryRecord} (newest : s.pick.history = r :: rest) :
    ((readHistoryBytes s).drop 1).take 16 = historyBytes r := by
  rw [readHistoryBytes, newest, List.flatMap_cons]
  exact List.take_left' (historyBytes_length r)

/-- READ HISTORY on a link that listens. -/
theorem exec_readHistory (listens : s.listens k = true) :
    exec (.readHistory k []) s = .next (answer k 0x07 (.done (readHistoryBytes s)) s) :=
  congrArg Host.Outcome.next (transact_both_bare k s 0x07 (fun s => (s, .done (readHistoryBytes s))) listens)

end History

/-! ## READ FAULT (R175, R204) -/

section Faults

variable {k : Link} {s : State}

/-- The reply while no fault is held. -/
theorem readFaultBytes_empty (empty : s.pick.fault = none) (i : Nat) :
    (readFaultBytes s).getD i 0#8 = if i = 7 then 0xFF#8 else 0#8 := by
  have bytes : readFaultBytes s = List.replicate 7 0#8 ++ 0xFF#8 :: List.replicate 9 0#8 := by
    rw [readFaultBytes, empty]
    rfl
  rw [bytes]
  grind

/-- The reply takes 17 bytes. -/
theorem readFaultBytes_length : (readFaultBytes s).length = 17 := by
  unfold readFaultBytes
  cases s.pick.fault with
  | none => rfl
  | some f => cases at_ : f.position <;> simp only [at_] <;> rfl

/-- The later kinds, the kind of code k at bit k − 1. -/
theorem getLsbD_laterKinds {f : FaultRecord} (held : s.pick.fault = some f) {i : Nat} (low : i < 8) :
    ((readFaultBytes s).getD 16 0#8).getLsbD i =
      [f.laterKinds.lateFrame, f.laterKinds.weftUnavailable, f.laterKinds.shaftLost, f.laterKinds.floatLimit].getD i
        false := by
  have here : (readFaultBytes s).getD 16 0#8 = BitVec.ofNat 8 f.laterKinds.number := by
    rw [readFaultBytes, held]
    cases at_ : f.position <;> simp only [at_] <;> rfl
  rw [here, KindSet.number, getLsbD_setByte _ low]

/-- READ FAULT on a link that listens. -/
theorem exec_readFault (listens : s.listens k = true) :
    exec (.readFault k []) s = .next (answer k 0x08 (.done (readFaultBytes s)) s) :=
  congrArg Host.Outcome.next (transact_both_bare k s 0x08 (fun s => (s, .done (readFaultBytes s))) listens)

end Faults

/-! ## READ HARNESS and READ ARTICLE (R142, R167) -/

section HarnessAndArticle

variable {k : Link} {s : State}

/-- READ HARNESS on a link that listens. -/
theorem exec_readHarness (c : Byte) (listens : s.listens k = true) :
    exec (.readHarness k [c]) s =
      .next (answer k 0x0F (readHarness k c.toNat s).2 (readHarness k c.toNat s).1) :=
  congrArg Host.Outcome.next (transact_both_fixed k s 0x0F (readHarness k c.toNat) listens (by simp [maxParams]))

/-- READ ARTICLE on a link that listens. -/
theorem exec_readArticle (b : BankId) (listens : s.listens k = true) :
    exec (.readArticle k [BitVec.ofNat 8 (bankCode b)]) s =
      .next (answer k 0x10 (.done (readArticleBytes (s.bank b))) s) := by
  have own : readArticle [BitVec.ofNat 8 (bankCode b)] s = (s, .done (readArticleBytes (s.bank b))) := by cases b <;> rfl
  have taken := transact_both_fixed k s (p := [BitVec.ofNat 8 (bankCode b)]) 0x10
    (readArticle [BitVec.ofNat 8 (bankCode b)]) listens (by simp [maxParams])
  rw [own] at taken
  exact congrArg Host.Outcome.next taken

variable {b : Bank} {a : Article}

/-- A bank with no record. -/
theorem readArticleBytes_bare (none_ : b.record = none) :
    readArticleBytes b = u8 b.state.code ++ List.replicate 17 0#8 := by
  unfold readArticleBytes
  rw [none_]
  cases b.state <;> rfl

/-- An EMPTY bank. -/
theorem readArticleBytes_empty (empty : b.state = .empty) : readArticleBytes b = List.replicate 18 0#8 := by
  unfold readArticleBytes
  rw [empty]
  rfl

/-- A bank with a record (R204). -/
theorem readArticleBytes_record (used : b.state ≠ .empty) (held : b.record = some a) : readArticleBytes b =
    u8 b.state.code ++ closeBytes b.closeResult ++ u16 a.width ++ u16 a.height ++ u8 a.face.code ++ u16 a.linesWritten ++
      u8 (setNumber (a.schemes.toList.map Option.isSome)) ++ u32 a.weavesNumber ++
      u8 (setNumber (a.feeders.toList.map Option.isSome)) := by
  unfold readArticleBytes
  rw [held]
  cases at_ : b.state with
  | empty => exact absurd at_ used
  | _ => rfl

/-- The close result takes 4 bytes. -/
theorem closeBytes_length (c : CloseResult) : (closeBytes c).length = 4 := by
  cases c <;> rfl

/-- The four bytes of the close result: its code, the first detail, the second (R204). -/
theorem closeBytes_eq (c : CloseResult) : ∃ x y z w, closeBytes c = [x, y, z, w] :=
  List.length_eq_four.mp (closeBytes_length c)

/-- The reply takes 18 bytes, the first the state of the bank. -/
theorem readArticleBytes_shape (b : Bank) :
    (readArticleBytes b).length = 18 ∧ (readArticleBytes b).getD 0 0#8 = BitVec.ofNat 8 b.state.code := by
  by_cases empty : b.state = .empty
  · rw [readArticleBytes_empty empty, empty]
    exact ⟨rfl, rfl⟩
  · cases held : b.record with
    | none => rw [readArticleBytes_bare held]; exact ⟨rfl, rfl⟩
    | some a =>
      obtain ⟨x, y, z, w, close⟩ := closeBytes_eq b.closeResult
      rw [readArticleBytes_record empty held, close]
      exact ⟨rfl, rfl⟩

/-- Where the fields of a record lie (R204). -/
theorem readArticleBytes_fields (used : b.state ≠ .empty) (held : b.record = some a) :
    ((readArticleBytes b).drop 1).take 4 = closeBytes b.closeResult ∧
    ((readArticleBytes b).drop 5).take 7 = u16 a.width ++ u16 a.height ++ u8 a.face.code ++ u16 a.linesWritten ∧
    (readArticleBytes b).getD 12 0#8 = BitVec.ofNat 8 (setNumber (a.schemes.toList.map Option.isSome)) ∧
    (readArticleBytes b).getD 17 0#8 = BitVec.ofNat 8 (setNumber (a.feeders.toList.map Option.isSome)) ∧
    ∀ m, m < 4 → (readArticleBytes b).getD (13 + m) 0#8 = (u32 a.weavesNumber).getD m 0#8 := by
  obtain ⟨x, y, z, w, close⟩ := closeBytes_eq b.closeResult
  rw [readArticleBytes_record used held, close]
  generalize setNumber (a.schemes.toList.map Option.isSome) = schemes
  generalize setNumber (a.feeders.toList.map Option.isSome) = feeders
  generalize a.weavesNumber = weaves
  refine ⟨rfl, rfl, rfl, rfl, fun m below => ?_⟩
  interval_cases m <;> rfl

/-- Weave (ws, e) is bit 4 ws + e (R204). -/
theorem testBit_weavesNumber (a : Article) (ws : Fin 8) (e : Fin 4) :
    a.weavesNumber.testBit (4 * ws.val + e.val) = ((a.weaves[ws])[e]).isSome := by
  rw [Article.weavesNumber, testBit_setNumber, List.getD_eq_getElem?_getD,
    getElem?_flatMap_blocks _ (by simp) e.isLt]
  simp

/-- Bit n of the byte of a set of eight. -/
theorem getLsbD_optionSet {α : Type} (v : Vector (Option α) 8) (n : Fin 8) :
    (BitVec.ofNat 8 (setNumber (v.toList.map Option.isSome))).getLsbD n.val = (v[n]).isSome := by
  rw [getLsbD_setByte _ n.isLt]
  simp

/-- The sets of a record: schemes, feeder entries and weaves (R204). -/
theorem readArticleBytes_sets (used : b.state ≠ .empty) (held : b.record = some a) :
    (∀ n : Fin 8, ((readArticleBytes b).getD 12 0#8).getLsbD n.val = (a.schemes[n]).isSome ∧
      ((readArticleBytes b).getD 17 0#8).getLsbD n.val = (a.feeders[n]).isSome) ∧
    ∀ (ws : Fin 8) (e : Fin 4),
      ((readArticleBytes b).getD (16 - (4 * ws.val + e.val) / 8) 0#8).getLsbD ((4 * ws.val + e.val) % 8) =
        ((a.weaves[ws])[e]).isSome := by
  obtain ⟨-, -, schemes, feeders, weaves⟩ := readArticleBytes_fields used held
  refine ⟨fun n => ?_, fun ws e => ?_⟩
  · rw [schemes, feeders]
    exact ⟨getLsbD_optionSet a.schemes n, getLsbD_optionSet a.feeders n⟩
  · have below : 4 * ws.val + e.val < 32 := by omega
    rw [show 16 - (4 * ws.val + e.val) / 8 = 13 + (3 - (4 * ws.val + e.val) / 8) by omega,
      weaves _ (by omega), getLsbD_u32 _ below, testBit_weavesNumber]

end HarnessAndArticle

/-! ## READ FRAME (R118, R204) -/

section Frames

variable {s : State} {h : Nat}

/-- A selection is latched exactly where a chain holds one. -/
theorem latchedAny_iff (x : Selection) : Selection.latchedAny x = true ↔ ∃ c : Fin 8, x[c] ≠ none := by
  simp only [Selection.latchedAny, List.any_eq_true, Vector.mem_toList_iff, Option.isSome_iff_ne_none]
  refine ⟨fun ⟨l, inside, some_⟩ => ?_, fun ⟨c, some_⟩ => ⟨x[c], Vector.getElem_mem c.isLt, some_⟩⟩
  obtain ⟨c, below, rfl⟩ := Vector.mem_iff_getElem.mp inside
  exact ⟨⟨c, below⟩, some_⟩

/-- The bytes of the latched frame's descriptor (R204). -/
def descBytes : Option Descriptor → List Byte
  | some d =>
    [BitVec.ofNat 8 d.kind.code, BitVec.ofNat 8 (match d.kind with | .forward => 0 | .reform c => c.code),
      BitVec.ofNat 8 (flag d.level), BitVec.ofNat 8 (bankCode d.position.bank),
      BitVec.ofNat 8 (d.position.line / 256), BitVec.ofNat 8 d.position.line, BitVec.ofNat 8 d.position.step,
      BitVec.ofNat 8 (d.position.rep / 256), BitVec.ofNat 8 d.position.rep,
      BitVec.ofNat 8 (d.pickValue / 16777216), BitVec.ofNat 8 (d.pickValue / 65536),
      BitVec.ofNat 8 (d.pickValue / 256), BitVec.ofNat 8 d.pickValue, BitVec.ofNat 8 (feederCode d.resolved),
      BitVec.ofNat 8 (d.bindCount / 256), BitVec.ofNat 8 d.bindCount]
  | none => [0#8, 0#8, 0#8, 0xFF#8] ++ List.replicate 12 0#8

/-- The descriptor takes 16 bytes. -/
theorem descBytes_length (d : Option Descriptor) : (descBytes d).length = 16 := by
  cases d <;> rfl

/-- The reply in its four parts: the flag, the descriptor, H and the lifts (R204). -/
theorem readFrameBytes_eq : readFrameBytes h s =
    BitVec.ofNat 8 (flag (Selection.latchedAny s.frame.latched)) :: (descBytes s.frame.latchedDesc ++
      u16 s.harness.live.hooks ++ (List.range 16).map (liftByte s h)) := by
  unfold readFrameBytes
  cases s.frame.latchedDesc <;> rfl

/-- The reply takes 35 bytes. -/
theorem readFrameBytes_length : (readFrameBytes h s).length = 35 := by
  simp [readFrameBytes_eq, descBytes_length, u16]

/-- The first byte tells whether a chain holds a selection (log 33). -/
theorem readFrameBytes_latched : (readFrameBytes h s).getD 0 0#8 =
    BitVec.ofNat 8 (flag (Selection.latchedAny s.frame.latched)) := by
  rw [readFrameBytes_eq]
  rfl

/-- The descriptor and H follow. -/
theorem readFrameBytes_desc :
    ((readFrameBytes h s).drop 1).take 18 = descBytes s.frame.latchedDesc ++ u16 s.harness.live.hooks := by
  rw [readFrameBytes_eq]
  exact List.take_left' (by rw [List.length_append, descBytes_length]; rfl)

/-- Byte m of the lifts. -/
theorem readFrameBytes_lifts {m : Nat} (below : m < 16) :
    (readFrameBytes h s).getD (19 + m) 0#8 = liftByte s h m := by
  have before : (descBytes s.frame.latchedDesc ++ u16 s.harness.live.hooks).length = 18 := by
    rw [List.length_append, descBytes_length]
    rfl
  rw [readFrameBytes_eq, show 19 + m = (18 + m) + 1 by omega, List.getD_cons_succ,
    List.getD_append_right _ _ _ _ (by omega), before, Nat.add_sub_cancel_left]
  simp [List.getD_eq_getElem?_getD, below]

/-- Bit j of byte m of the lifts is the lift of hook h + 8 m + j. -/
theorem getLsbD_liftByte (m : Nat) {j : Nat} (below : j < 8) :
    (liftByte s h m).getLsbD j = hookLift s.frame.latched s.harness.live (h + 8 * m + j) := by
  rw [liftByte, getLsbD_setByte _ below]
  simp [List.getD_eq_getElem?_getD, below]

/-- READ FRAME on the loom link while it listens. -/
theorem exec_readFrame {p : List Byte} (listens : s.listens .loom = true) (two : p.length = 2) :
    exec (.readFrame .loom p) s =
      .next (answer .loom 0x35 (readFrame (wordAt p 0) s).2 (readFrame (wordAt p 0) s).1) :=
  congrArg Host.Outcome.next (transact_loom 0x35 2 (readFrame (wordAt p 0)) listens two (by decide))

end Frames

/-- A field of two bytes with a value below 256. -/
theorem u16_of_lt {n : Nat} (small : n < 256) : u16 n = [0#8, BitVec.ofNat 8 n] := by
  rw [u16, Nat.div_eq_of_lt small]

/-- Settles O26: each command answers by its own rule, and the reply's bytes are those of its layout. -/
theorem readCommandsOnlyRead : Obligations.ReadCommandsOnlyRead := by
  unfold Obligations.ReadCommandsOnlyRead
  intro k s
  refine ⟨fun listens => ⟨_, exec_readHistory listens, readHistoryBytes_length, rfl, fun r rest newest => ?_⟩,
    fun listens => ⟨_, exec_readFault listens, readFaultBytes_length, readFaultBytes_empty, fun f held => ⟨?_, ?_⟩⟩,
    fun listens => exec_readHarness 0#8 listens, fun listens t shadow => ?_, fun listens shadow => ?_,
    fun listens c other => ?_, fun listens b => ⟨_, exec_readArticle b listens, (readArticleBytes_shape _).1,
      (readArticleBytes_shape _).2, readArticleBytes_empty, fun a used held => ⟨?_, ?_, readArticleBytes_sets used held⟩⟩,
    fun listens p two inside => ⟨readFrameBytes (wordAt p 0) s, ?_, readFrameBytes_length, fun bare => ?_, fun some_ => ?_,
      fun none_ => ?_, fun x latched => ?_, fun i below => ?_⟩,
    fun listens p two beyond => ?_, fun listens job cells full => ?_, fun listens empty => ?_⟩
  · rw [readHistoryBytes_newest newest, historyBytes_eq]
  · rw [readFaultBytes, held]
    cases at_ : f.position <;> simp only [at_] <;> rfl
  · intro i low
    rw [getLsbD_laterKinds held low]
    interval_cases i <;> rfl
  · rw [exec_readHarness 1#8 listens]
    simp [readHarness, shadow]
  · rw [exec_readHarness 1#8 listens]
    simp [readHarness, shadow, refuse]
  · rw [exec_readHarness c listens, readHarness, if_neg (by omega), if_neg (by omega)]
    rfl
  · obtain ⟨close, -⟩ := readArticleBytes_fields used held
    rw [close]
    cases (s.bank b).closeResult with
    | none | ok | linesMissing => rfl
    | schemeUndefined n | weaveUndefined n e | feederUndefined n =>
      simp only [closeBytes, u16_of_lt (n.isLt.trans (by decide : 8 < 256))]
      rfl
  · obtain ⟨-, sizes, -⟩ := readArticleBytes_fields used held
    exact sizes
  · rw [exec_readFrame listens two, readFrame, if_neg (by omega)]
  · have none_ : Selection.latchedAny s.frame.latched = false :=
      Bool.eq_false_iff.mpr fun any => ((latchedAny_iff _).mp any).elim fun c holds => holds (bare c)
    rw [readFrameBytes_latched, none_]
    rfl
  · rw [readFrameBytes_latched, (latchedAny_iff _).mpr some_]
    rfl
  · rw [readFrameBytes_desc, none_]
    rfl
  · rw [readFrameBytes_desc, latched]
    rfl
  · rw [readFrameBytes_lifts (by omega), getLsbD_liftByte _ (Nat.mod_lt i (by decide)), Nat.add_assoc,
      Nat.div_add_mod]
  · rw [exec_readFrame listens two, readFrame, if_pos beyond]
    rfl
  · rw [exec_fetchLine listens, fetchLine, full]
    rfl
  · rw [exec_fetchLine listens, fetchLine, empty]
    rfl

end Sys2Proof.Proofs
end
